-- ==== Sys2Proof/Word.lean ====
section
/-! DEFINITION. The plain data the part deals in: words, register values, and the numbers of links and stations. -/

namespace Sys2Proof

/-- A word of the host bus (00, "Words": a word is 32 bits). -/
abbrev Word := BitVec 32

/-- A register value (00, "Words": a register value is 16 bits). -/
abbrev Value := BitVec 16

/-- A register number of a station, 0-255 (R2). -/
abbrev RegNo := BitVec 8

/-- A byte address of the host port, 20 bits (10, section opening; R163). -/
abbrev HostAddr := BitVec 20

/-- The byte enables of a host access, as activity: bit n is 1 when HBEn_N is low (R162, Table 74). -/
abbrev ByteEnables := BitVec 4

/-- A link number, 0-3 (R2). -/
abbrev LinkNo := Fin 4

/-- The number of a station that has a record, 0-62 (R2, R123). -/
abbrev StationNo := Fin 63

end Sys2Proof
end

