-- ==== Sys2Proof/Syntax.lean ====
section
/-! DEFINITION. The commands the part takes: one constructor for each row of spec/opcode_table.json. -/

namespace Sys2Proof

/-- The commands of the part, in the table's order.

The fifteen commands of Table 73 have no operand: such a command is a full-width write of its code to COMMAND, and it
takes its arguments from the ARG words as they stand (R165; notes/assumptions/12.md). A host access carries its
address where the row leaves it open, its byte enables and, for a write, its data word (R162). An event carries the
link, or the link and station, that it happens to. -/
inductive Instr where
  /-- WATCH, code 01h (R9, R10). -/
  | watch
  /-- UNWATCH, code 02h (R12). -/
  | unwatch
  /-- MODIFY, code 03h (R14, R15). -/
  | modify
  /-- INSPECT, code 04h (R16). -/
  | inspect
  /-- ENUMERATE, code 05h (R17). -/
  | enumerate
  /-- PURGE, code 06h (R18, R19). -/
  | purge
  /-- HOLD, code 10h (R132). -/
  | hold
  /-- RELEASE, code 11h (R133). -/
  | release
  /-- FORGET, code 12h (R134). -/
  | forget
  /-- LINK_RUN, code 20h (R90). -/
  | linkRun
  /-- LINK_STOP, code 21h (R91). -/
  | linkStop
  /-- LINK_RESET, code 22h (R94). -/
  | linkReset
  /-- LINK_CONFIG, code 23h (R96). -/
  | linkConfig
  /-- SET_SLOT, code 24h (R84). -/
  | setSlot
  /-- SET_POSITION, code 25h (R85). -/
  | setPosition
  /-- A full-width write to COMMAND with a value that is no code of Table 73 (R165). -/
  | unknownCommand (value : Word)
  /-- A host write in the cached or the direct window (R138). -/
  | windowWrite (addr : HostAddr) (be : ByteEnables) (data : Word)
  /-- A cached-window read, answered from the entry of its key (R150). -/
  | lookup (addr : HostAddr) (be : ByteEnables)
  /-- A direct-window read, or a cached-window read of an unwatched key (R154). -/
  | demandRead (addr : HostAddr) (be : ByteEnables)
  /-- A read of TAKE (R56). -/
  | take (be : ByteEnables)
  /-- A write to NOTICE_CTL (R60). -/
  | noticeCtlWrite (be : ByteEnables) (data : Word)
  /-- A write to LINK_EVENTS of a link (R66). -/
  | linkEventsWrite (link : LinkNo) (be : ByteEnables) (data : Word)
  /-- A write to LINK_ENABLES of a link (R67). -/
  | linkEnablesWrite (link : LinkNo) (be : ByteEnables) (data : Word)
  /-- A write to a control-block word with no row of its own (R164). -/
  | registerWrite (addr : HostAddr) (be : ByteEnables) (data : Word)
  /-- RST_N goes low (R106). -/
  | pinReset
  /-- RST_N rises (R120). -/
  | pinResetRelease
  /-- The slot timer of a link runs out (R72). -/
  | slotTick (link : LinkNo)
  /-- A finite hold of a station is counted down to its end (R131). -/
  | holdExpiry (link : LinkNo) (station : StationNo)
  /-- The lifetime of a READY demand result is counted down to its end (R159). -/
  | demandExpiry (link : LinkNo)
  /-- The linger timer reaches 0 (R62). -/
  | lingerExpiry
  /-- The gap of a link's line interface runs out (R114). -/
  | gapEnd (link : LinkNo)
  /-- The quiet time of a link's line interface runs out (R120). -/
  | quietTimeEnd (link : LinkNo)
  /-- The attempt under way on a link ends (R113). `sld` holds the level the stations left on SLD in each bit time of
  the attempt, the first lead bit first; a bit time the list does not reach was left released
  (notes/assumptions/13.md). -/
  | attemptEnd (link : LinkNo) (sld : List Bool)
  /-- The last check bit of a request frame to a station 0-62 has gone out unopposed (R111). -/
  | requestSentWhole (link : LinkNo)
  deriving DecidableEq, Repr

end Sys2Proof
end

