-- ==== Sys2Proof/Config.lean ====
section
/-! DEFINITION. What one 4212 fixes (capacities, counts of bit times, reset settings) and the free values the spec
leaves open. -/

namespace Sys2Proof

/-! ## Fixed numbers -/

/-- IDENT: vendor code 4Ch, revision 01h, part number 4212h (R166, Table 75). -/
def Config.ident : Word := 0x4C014212#32

/-- A write queue holds at most 16 records (R137). -/
def Config.queueCapacity : Nat := 16

/-- A demand result is READY for 16 slot ticks (R153, R156). -/
def Config.demandLifetime : Nat := 16

/-- Four BLOCKED outcomes in a row are a line fault (R104). -/
def Config.lineFaultRun : Nat := 4

/-- The gap between attempts, in bit times (R114). -/
def Config.gapBits : Nat := 2

/-- The quiet time after an abandonment or pin reset, in bit times (R120). -/
def Config.quietBits : Nat := 29

/-- The turnaround between request and reply, in bit times (R112). -/
def Config.turnaroundBits : Nat := 2

/-- The code of a reply, in bit times (R112). -/
def Config.codeBits : Nat := 3

/-- One unit of linger is 3200 REFCLK periods of 20 ns, 64 us (00, "Time"; R61). -/
def Config.lingerUnit : Nat := 3200

/-- The slot setting after pin reset (R84, Table 30). -/
def Config.resetSlotSetting : Nat := 32

/-- The divider after pin reset (R96, Table 37). -/
def Config.resetDivider : Nat := 49

/-- The retry limit after pin reset (R96, Table 37). -/
def Config.resetRetryLimit : Nat := 2

/-- The miss limit after pin reset (R96, Table 37). -/
def Config.resetMissLimit : Nat := 3

/-! ## Free values

Each is a constant with no body: nothing can be proved of its value. The argument is the counter `State.choices`, so
that each use is free of the others. -/

/-- Whether the loss of a station reaches the entry of the completed transaction's key before the outcome does. R43
gives both orders as legal (notes/assumptions/3.md). -/
opaque Config.lossFirst : Nat → Bool

/-- The rank of a timer among those that run out in one REFCLK period; the spec lets them take effect in any order
(notes/assumptions/4.md). -/
opaque Config.tieRank : Nat → Nat → Nat

/-- The hold remaining, less 1, after a HOLD reply reaches a record already HELD with source STATION: R126 states no
value for this case (notes/assumptions/5.md). R123 bounds it to 1-65535 slots. -/
opaque Config.heldAgain : Nat → Fin 65535

end Sys2Proof
end

