-- ==== Sys2Proof/Machine/State.lean ====
section
/-! DEFINITION. The state of the part as plain data: every register, queue, counter, mode and pin the spec gives it, and
its value right after reset. -/

namespace Sys2Proof.Machine

/-! ## Keys and the watch table -/

/-- A key: link.station.register (R2). -/
structure Key where
  link : LinkNo
  station : StationNo
  register : RegNo
  deriving DecidableEq, Repr

/-- The seven states of an entry (R25, Table 16). -/
inductive EntryState where
  | valid | priming | writing | settling | doubtful | refused | orphaned
  deriving DecidableEq, Repr

/-- A watch entry (R1, Table 6). The listed indicator and the stale indicator are computed (`State.listed`,
`Entry.stale`): the first equals membership of the change list (R50), the second is not stored (R22). -/
structure Entry where
  key : Key
  /-- Table position, 0-511 (R4). -/
  pos : Nat
  value : Value
  state : EntryState
  periodCode : Fin 8
  phase : Fin 64
  mask : Value
  noteFirst : Bool
  /-- Write records of the key in the link's queue, 0-16 (R28). -/
  pending : Nat
  doubt : Bool
  failing : Bool
  /-- Slots since the last ACK was applied, 0-255 (R21). -/
  age : Nat
  deriving DecidableEq, Repr

/-! ## The change list -/

/-- The eight reasons (Table 24). -/
inductive Reason where
  | changed | first | writeFailed | writeUnknown | pollFailed | refused | orphaned | recovered
  deriving DecidableEq, Repr

/-- A change record (R50, R51, Table 24). `reasons` is the set of reasons as bits 23-16 of TAKEN1 show it (Table 77):
bit 0 CHANGED up to bit 7 RECOVERED. -/
structure ChangeRecord where
  key : Key
  reasons : BitVec 8
  oldValue : Value
  /-- Reasons listed since the append, 1-15, saturating. -/
  count : Nat
  deriving DecidableEq, Repr

/-- A timer: units left, the unit under way included, and the REFCLK periods of it that have gone. -/
structure Timer where
  left : Nat
  sub : Nat
  deriving DecidableEq, Repr

/-! ## Station records -/

/-- Who set a hold (R123). -/
inductive HoldSource where
  | station | host
  deriving DecidableEq, Repr

/-- A hold: its source, and the slots remaining or `none` for an indefinite one (R123). -/
structure Hold where
  source : HoldSource
  remaining : Option Nat
  deriving DecidableEq, Repr

/-- The state of a station record; the hold exists only while the record is HELD (R123). -/
inductive Standing where
  | unseen
  | present
  | held (hold : Hold)
  | missing
  deriving DecidableEq, Repr

/-- A station record (R123, Table 55). The entry count is the watch table's (R6) and is computed there. -/
structure StationRecord where
  standing : Standing
  /-- Silences since the last reply or hold effect, 0-15, saturating. -/
  misses : Nat
  seen : Bool
  deriving DecidableEq, Repr

/-! ## Writes, demand reads and the batch -/

/-- Where a write goes: one station, or the broadcast number 63 (R2, R137). -/
inductive Dest where
  | station (st : StationNo)
  | broadcast
  deriving DecidableEq, Repr

/-- A write record (R137, Table 62). -/
structure WriteRecord where
  dest : Dest
  register : RegNo
  data : Value
  inFlight : Bool
  deriving DecidableEq, Repr

/-- A demand slot (R153, Table 69). A result is a value, or `none` for a failure. -/
inductive DemandSlot where
  | empty
  | waiting (key : Key)
  | inFlight (key : Key)
  | ready (key : Key) (result : Option Value) (lifetime : Nat)
  deriving DecidableEq, Repr

/-- An item of a batch (R69): a poll of a key, or a probe of a station of the link. -/
inductive BatchItem where
  | poll (key : Key)
  | probe (st : StationNo)
  deriving DecidableEq, Repr

/-! ## The link engine and the line interface -/

/-- The states of a link (R88). -/
inductive LinkState where
  | off | running | stopping | halted
  deriving DecidableEq, Repr

/-- Why a link entered HALTED (R89). -/
inductive HaltReason where
  | none | hostStop | lineFault
  deriving DecidableEq, Repr

/-- The three groups of the arbiter (R97). -/
inductive Group where
  | write | demand | poll
  deriving DecidableEq, Repr

/-- A transaction handed to the line interface (R87): its kind, station, register and, for a write, data. The link is
the one that holds it. -/
inductive Transaction where
  | poll (st : StationNo) (reg : RegNo)
  | probe (st : StationNo)
  | demandRead (st : StationNo) (reg : RegNo)
  | write (st : StationNo) (reg : RegNo) (data : Value)
  | broadcast (reg : RegNo) (data : Value)
  deriving DecidableEq, Repr

/-- The outcome field of the write-fault record (R148). -/
inductive FaultOutcome where
  | none | rejected | blocked | unknown
  deriving DecidableEq, Repr

/-- The write-fault record (R148). -/
structure WriteFault where
  dest : Dest
  register : RegNo
  data : Value
  outcome : FaultOutcome
  deriving DecidableEq, Repr

/-- The six link events (R65, Table 26), in the order of their bits (Table 80). -/
inductive LinkEvent where
  | stationLost | stationFound | slotOverrun | demandExpired | writeFault | halted
  deriving DecidableEq, Repr

/-- The phases of a line interface (R108, Table 41). -/
inductive Phase where
  | idle | wait | request | turnaround | reply | gap
  deriving DecidableEq, Repr

/-- What keeps the line at rest before the next lead: nothing, a gap (R114) or a quiet time (R120). -/
inductive Rest where
  | none | gap | quiet
  deriving DecidableEq, Repr

/-- A line interface (R108). `timer` counts the bit times left of the rest, if one runs, and otherwise of the phase;
it is at zero when neither runs. -/
structure LineState where
  phase : Phase
  /-- 0 in IDLE, otherwise 1 to retry limit + 1. -/
  attempt : Nat
  /-- The sent-whole indicator of the attempt under way (R111). -/
  sentWhole : Bool
  /-- Reply bits gathered so far in the window, the first one first. -/
  reply : List Bool
  rest : Rest
  timer : Timer
  deriving DecidableEq, Repr

/-- The slot timer of a link (R71), in bit times. -/
inductive SlotTimer where
  | stopped
  | running (t : Timer)
  | paused (t : Timer)
  deriving DecidableEq, Repr

/-- One link column: link engine (R87, Table 33), link events (R65), wheel (R69, Table 28), write queue (R137), demand
slot (R153), station table (R123) and line interface (R108). -/
structure Link where
  state : LinkState
  haltReason : HaltReason
  pointer : Group
  inFlight : Option Transaction
  blockedRun : Nat
  divider : Nat
  retryLimit : Nat
  missLimit : Nat
  fault : WriteFault
  /-- Latched link events, by the bits of LINK_EVENTS (Table 80). -/
  events : BitVec 6
  /-- Enables of the link events, by the bits of LINK_ENABLES (Table 80). -/
  enables : BitVec 6
  position : Fin 64
  slotSetting : Nat
  slotTimer : SlotTimer
  batch : List BatchItem
  dropped : Nat
  /-- The model's own: stations whose hold ended ahead of the SLOT_TICK of the same tick (notes/assumptions/6.md). -/
  endedHolds : List StationNo
  queue : List WriteRecord
  demand : DemandSlot
  stations : Vector StationRecord 63
  line : LineState
  deriving DecidableEq, Repr

/-! ## The host port -/

/-- The termination shown on HTERM1-HTERM0 (R162, Table 74): 00, 01, 10 and 11 in this order. -/
inductive Termination where
  | notEnded | done | retry | error
  deriving DecidableEq, Repr

/-- The state of the part, and what is to reach it: the queue of the commands that wait, and the levels on the lines. -/
structure State where
  /-- The commands waiting, first in, first out (notes/assumptions/16.md). -/
  pending : List Instr
  /-- The model's own input: for each link, the levels the stations leave on SLD in the present and the coming bit times
  of its attempts, the present one first; released where the list has ended (notes/assumptions/1.md). -/
  sld : Vector (List Bool) 4
  /-- The model's own: how many free values have been used (notes/assumptions/3.md). -/
  choices : Nat
  /-- RST_N is low. -/
  rstLow : Bool
  /-- The termination of the last host access. -/
  hterm : Termination
  /-- The data word driven by the last host access; `none` when it drove none. -/
  hdata : Option Word
  /-- COMMAND (R164). -/
  command : Word
  /-- ARG0-ARG3 (R164). -/
  args : Vector Word 4
  /-- RESULT0-RESULT3 (R165). -/
  results : Vector Word 4
  /-- TAKEN1-TAKEN3 (R57). -/
  taken : Vector Word 3
  /-- The watch table: its entries in ascending table position (R1, R4). -/
  table : List Entry
  /-- The change list, oldest first (R50). -/
  list : List ChangeRecord
  noticeEnable : Bool
  threshold : BitVec 8
  linger : BitVec 8
  /-- The linger timer, `none` while stopped (R61). -/
  lingerTimer : Option Timer
  /-- The lingered indicator (R62). -/
  lingered : Bool
  links : Vector Link 4
  deriving DecidableEq, Repr

/-! ## Outcomes of a step -/

/-- Why the part stops. It never does: the spec gives every command of the table a next state, an ERROR termination and
a refused command among them, so this type has no constructor (safe: nothing stops that would go on). -/
inductive Fault where
  deriving DecidableEq, Repr

/-- Why a command has no meaning. -/
inductive Refusal where
  /-- The command with this mnemonic is not modelled. Raised by `exec`'s arm alone; no arm raises it. Safe. -/
  | notModelled (mnemonic : String)
  deriving DecidableEq, Repr

/-! ## Reset -/

/-- A station record after pin reset and after link reset (R136, Table 58). -/
def StationRecord.reset : StationRecord := { standing := .unseen, misses := 0, seen := false }

/-- A line interface after pin reset or an abandonment: IDLE with a quiet time running (R108, R120). The sent-whole
indicator and the reply bits there are the model's choice (notes/assumptions/10.md, notes/assumptions/22.md). -/
def LineState.reset : LineState :=
  { phase := .idle, attempt := 0, sentWhole := false, reply := [], rest := .quiet, timer := ⟨Config.quietBits, 0⟩ }

/-- The write-fault record after pin reset (R148). -/
def WriteFault.reset : WriteFault :=
  { dest := .station 0, register := 0#8, data := 0#16, outcome := .none }

/-- A link column after pin reset (R65, R67, R86, R106, R136, R147, R153). -/
def Link.reset : Link :=
  { state := .off, haltReason := .none, pointer := .poll, inFlight := none, blockedRun := 0,
    divider := Config.resetDivider, retryLimit := Config.resetRetryLimit, missLimit := Config.resetMissLimit,
    fault := WriteFault.reset, events := 0#6, enables := 0#6, position := 0, slotSetting := Config.resetSlotSetting,
    slotTimer := .stopped, batch := [], dropped := 0, endedHolds := [], queue := [], demand := .empty,
    stations := Vector.replicate 63 StationRecord.reset, line := LineState.reset }

/-- The part right after pin reset, RST_N having risen (R23, R57, R60, R61, R86, R106, R120, R164 to R166;
notes/assumptions/10.md). -/
def State.reset : State :=
  { pending := [], sld := Vector.replicate 4 [], choices := 0, rstLow := false, hterm := .notEnded, hdata := none, command := 0#32,
    args := Vector.replicate 4 0#32, results := Vector.replicate 4 0#32, taken := Vector.replicate 3 0#32,
    table := [], list := [], noticeEnable := false, threshold := 1#8, linger := 0#8, lingerTimer := none,
    lingered := false, links := Vector.replicate 4 Link.reset }

end Sys2Proof.Machine
end

