-- ==== Sys2Proof/Machine/Operands.lean ====
section
/-! DEFINITION. The operand forms: the fields of the argument words (R167, Table 76), window addresses and
control-block addresses (R163, Table 72), and the frames of the station link (R109, R110). -/

namespace Sys2Proof.Machine

/-! ## Numbers that may name nothing -/

/-- The link a number names, if any: 0-3 (R165, check 2). -/
def linkOf (n : Nat) : Option LinkNo := if h : n < 4 then some ⟨n, h⟩ else none

/-- The station record a number names, if any: 0-62 (R165, check 3). -/
def stationOf (n : Nat) : Option StationNo := if h : n < 63 then some ⟨n, h⟩ else none

/-- A station number of a window address: 63 is the broadcast number (R163). -/
def destOf (n : BitVec 6) : Dest :=
  match stationOf n.toNat with
  | some st => .station st
  | none => .broadcast

/-- The station number of a destination, 63 for a broadcast (R137, R148). -/
def Dest.number : Dest → BitVec 6
  | .station st => BitVec.ofNat 6 st.val
  | .broadcast => 63#6

/-! ## Argument words (Table 76) -/

/-- The link field, bits 19-16. -/
def argLink (w : Word) : Option LinkNo := linkOf (w.extractLsb' 16 4).toNat

/-- The station field, bits 13-8. -/
def argStation (w : Word) : Option StationNo := stationOf (w.extractLsb' 8 6).toNat

/-- The register field, bits 7-0. -/
def argRegister (w : Word) : RegNo := w.extractLsb' 0 8

/-- The key an argument word names; `none` when a common check of R165 refuses it. -/
def argKey (w : Word) : Option Key :=
  match argLink w, argStation w with
  | some l, some st => some ⟨l, st, argRegister w⟩
  | _, _ => none

/-- The link and station an argument word names, the register ignored (R167). -/
def argRecord (w : Word) : Option (LinkNo × StationNo) :=
  match argLink w, argStation w with
  | some l, some st => some (l, st)
  | _, _ => none

/-- The period code, ARG1 bits 2-0. -/
def argPeriodCode (w : Word) : Fin 8 := (w.extractLsb' 0 3).toFin

/-- The phase, ARG1 bits 13-8. -/
def argPhase (w : Word) : Fin 64 := (w.extractLsb' 8 6).toFin

/-- The NOTE_FIRST option, ARG1 bit 16. -/
def argNoteFirst (w : Word) : Bool := w.getLsbD 16

/-- The mask, ARG2 bits 15-0. -/
def argMask (w : Word) : Value := w.extractLsb' 0 16

/-- The period of a period code in slots; code 0 has none and reads 0 here (R7, Table 7). -/
def period (code : Fin 8) : Nat := if code = 0 then 0 else 2 ^ (code.val - 1)

/-- Check 3 of Table 8: a schedule is legal when its phase is 0 for code 0 and below the period otherwise (R9). -/
def scheduleLegal (code : Fin 8) (phase : Fin 64) : Bool :=
  if code = 0 then phase.val == 0 else decide (phase.val < period code)

/-- The selectors of PURGE: which keys a passing ARG0 selects (R18, Table 12); `none` when its link is refused. -/
def purgeSelects (w : Word) : Option (Key → Bool) :=
  let station : Key → Bool := fun k =>
    match argStation w with
    | some st => k.station == st
    | none => true
  if w.getLsbD 31 then some station
  else
    match argLink w with
    | some l => some (fun k => k.link == l && station k)
    | none => none

/-! ## Window addresses (R163) -/

/-- The three regions of the host port's address space (R163). -/
inductive Region where
  | cached | direct | control
  deriving DecidableEq, Repr

/-- The region of an address, by its two highest bits (R163). -/
def regionOf (a : HostAddr) : Region :=
  if a.getLsbD 19 then .control else if a.getLsbD 18 then .direct else .cached

/-- The link of a window address: link × 10000h (R163). -/
def windowLink (a : HostAddr) : LinkNo := (a.extractLsb' 16 2).toFin

/-- The station of a window address: station × 400h, 63 being the broadcast number (R163). -/
def windowDest (a : HostAddr) : Dest := destOf (a.extractLsb' 10 6)

/-- The register of a window address: register × 4 (R163). -/
def windowRegister (a : HostAddr) : RegNo := a.extractLsb' 2 8

/-! ## Control-block words (Table 72) -/

/-- The words of the control block (R163, Table 72). -/
inductive ControlWord where
  | ident
  | command
  | arg (n : Fin 4)
  | result (n : Fin 4)
  | take
  | taken (n : Fin 3)
  | listStatus
  | noticeCtl
  | linkStatus (l : LinkNo)
  | linkEvents (l : LinkNo)
  | linkEnables (l : LinkNo)
  | faultFirst (l : LinkNo)
  | faultSecond (l : LinkNo)
  | stationView (l : LinkNo) (st : BitVec 6)
  deriving DecidableEq, Repr

/-- The word of a link at an offset of its block of 20h bytes (Table 72). -/
def linkWordAt (l : LinkNo) (offset : BitVec 5) : Option ControlWord :=
  if offset = 0x00#5 then some (.linkStatus l)
  else if offset = 0x04#5 then some (.linkEvents l)
  else if offset = 0x08#5 then some (.linkEnables l)
  else if offset = 0x0C#5 then some (.faultFirst l)
  else if offset = 0x10#5 then some (.faultSecond l)
  else none

/-- The control-block word at an aligned address, if the address names one (R162 check 4, Table 72). -/
def controlWordAt (a : HostAddr) : Option ControlWord :=
  if a = 0x80000#20 then some .ident
  else if a = 0x80004#20 then some .command
  else if a = 0x80030#20 then some .take
  else if a = 0x80040#20 then some .listStatus
  else if a = 0x80044#20 then some .noticeCtl
  else if a.extractLsb' 4 16 = 0x8001#16 then some (.arg (a.extractLsb' 2 2).toFin)
  else if a.extractLsb' 4 16 = 0x8002#16 then some (.result (a.extractLsb' 2 2).toFin)
  else if a = 0x80034#20 then some (.taken 0)
  else if a = 0x80038#20 then some (.taken 1)
  else if a = 0x8003C#20 then some (.taken 2)
  else if a.extractLsb' 7 13 = 0x1002#13 then linkWordAt (a.extractLsb' 5 2).toFin (a.extractLsb' 0 5)
  else if a.extractLsb' 10 10 = 0x201#10 then some (.stationView (a.extractLsb' 8 2).toFin (a.extractLsb' 2 6))
  else none

/-- The address of COMMAND (Table 72). -/
def commandAddr : HostAddr := 0x80004#20

/-- The address of TAKE (Table 72). -/
def takeAddr : HostAddr := 0x80030#20

/-- The address of NOTICE_CTL (Table 72). -/
def noticeCtlAddr : HostAddr := 0x80044#20

/-- The address of LINK_EVENTS of a link: 80104h + L × 20h (Table 72). -/
def linkEventsAddr (l : LinkNo) : HostAddr := 0x80104#20 + BitVec.ofNat 20 (l.val * 0x20)

/-- The address of LINK_ENABLES of a link: 80108h + L × 20h (Table 72). -/
def linkEnablesAddr (l : LinkNo) : HostAddr := 0x80108#20 + BitVec.ofNat 20 (l.val * 0x20)

/-- The form of an access that the port refuses before it reaches a block: partial width, or misaligned (R162, checks 2
and 3). -/
def malformedAccess (a : HostAddr) (be : ByteEnables) : Bool :=
  be != 0xF#4 || a.extractLsb' 0 2 != 0#2

/-! ## Transactions and their frames -/

/-- The station a transaction is addressed to; a broadcast is addressed to no record (R99). -/
def Transaction.station? : Transaction → Option StationNo
  | .poll st _ | .probe st | .demandRead st _ | .write st _ _ => some st
  | .broadcast _ _ => none

/-- The register a transaction names; a probe reads register 0 (R109). -/
def Transaction.register : Transaction → RegNo
  | .poll _ r | .demandRead _ r | .write _ r _ | .broadcast r _ => r
  | .probe _ => 0#8

/-- Whether a transaction is sent as a READ frame (R109). -/
def Transaction.isRead : Transaction → Bool
  | .poll _ _ | .probe _ | .demandRead _ _ => true
  | .write _ _ _ | .broadcast _ _ => false

/-- Whether a transaction is a probe (R87). -/
def Transaction.isProbe : Transaction → Bool
  | .probe _ => true
  | _ => false

/-- Whether a transaction is a broadcast write (R87). -/
def Transaction.isBroadcast : Transaction → Bool
  | .broadcast _ _ => true
  | _ => false

/-- The station field of a transaction's request frame (R109). -/
def Transaction.stationNumber (tx : Transaction) : BitVec 6 :=
  match tx.station? with
  | some st => BitVec.ofNat 6 st.val
  | none => 63#6

/-- The data of a write; 0 for a read (R109, R110). -/
def Transaction.data : Transaction → Value
  | .write _ _ d | .broadcast _ d => d
  | .poll _ _ | .probe _ | .demandRead _ _ => 0#16

/-- The operation field: 3 = READ, 2 = WRITE (Table 42). -/
def Transaction.operation (tx : Transaction) : BitVec 2 := if tx.isRead then 3#2 else 2#2

/-- The sum of the items a check covers but for the check itself, modulo 256 (R110). -/
def sumBytes (items : List (BitVec 8)) : BitVec 8 := items.foldl (· + ·) 0#8

/-- The high byte of a value. -/
def hiByte (v : Value) : BitVec 8 := v.extractLsb' 8 8

/-- The low byte of a value. -/
def loByte (v : Value) : BitVec 8 := v.extractLsb' 0 8

/-- The items of a request frame that its check covers (R110, Table 43). -/
def Transaction.items (tx : Transaction) : List (BitVec 8) :=
  [tx.operation.setWidth 8, tx.stationNumber.setWidth 8, tx.register, hiByte tx.data, loByte tx.data]

/-- The check field of a transaction's request: FFh less the sum of the other items (R110). -/
def Transaction.check (tx : Transaction) : BitVec 8 := 0xFF#8 - sumBytes tx.items

/-- The bits of a field, most significant first (R107). -/
def bitsOf {w : Nat} (v : BitVec w) : List Bool := (List.range w).map v.getMsbD

/-- The request frame of a transaction as the 4212 sends it, one item for each bit time: `true` where it leaves SLD
released, `false` where it drives it low (R109, Table 42). -/
def Transaction.frame (tx : Transaction) : List Bool :=
  [true, true, true, true] ++ [false, false] ++ bitsOf tx.operation ++ bitsOf tx.stationNumber ++ bitsOf tx.register
    ++ (if tx.isRead then [] else bitsOf tx.data) ++ bitsOf tx.check

/-- The length of a request frame in bit times: 30 for a READ, 46 for a WRITE (R109). -/
def Transaction.frameBits (tx : Transaction) : Nat := if tx.isRead then 30 else 46

end Sys2Proof.Machine
end

