-- ==== Sys2Proof/Machine/Flags.lean ====
section
/-! DEFINITION. What is derived from the state and not stored: the stale and listed indicators, the entry counts, the
notice condition, ATTN, the codes and the layouts of the words the host reads (Tables 75 to 80), and the pins. -/

namespace Sys2Proof.Machine

/-! ## Reading the state -/

/-- The column of a link. -/
def State.link (s : State) (l : LinkNo) : Link := s.links[l]

/-- The record of a station (R123). -/
def Link.station (k : Link) (st : StationNo) : StationRecord := k.stations[st]

/-- The record of a station of a link. -/
def State.station (s : State) (l : LinkNo) (st : StationNo) : StationRecord := (s.link l).station st

/-- The entry under a key, sought when the claim arrives (R5). -/
def State.find (s : State) (k : Key) : Option Entry := s.table.find? (fun e => e.key == k)

/-- The listed indicator of a key: the list holds a record for it (R50). -/
def State.listed (s : State) (k : Key) : Bool := s.list.any (fun r => r.key == k)

/-- The entry count of a station: the entries whose key carries its link and station (R6). -/
def State.entryCount (s : State) (l : LinkNo) (st : StationNo) : Nat :=
  s.table.countP (fun e => e.key.link == l && e.key.station == st)

/-- The number of records a queue holds for a register of a station; a broadcast record is not counted (R10, R28). -/
def Link.queuedFor (k : Link) (st : StationNo) (reg : RegNo) : Nat :=
  k.queue.countP (fun r => r.dest == .station st && r.register == reg)

/-- Whether the record is HELD. -/
def StationRecord.isHeld (r : StationRecord) : Bool :=
  match r.standing with
  | .held _ => true
  | _ => false

/-- Whether the record is MISSING. -/
def StationRecord.isMissing (r : StationRecord) : Bool := r.standing == .missing

/-! ## Derived indicators -/

/-- The stale indicator: a period that is not "never", and an age above twice the period (R22). -/
def Entry.stale (e : Entry) : Bool := e.periodCode != 0 && decide (2 * period e.periodCode < e.age)

/-- The notice condition (R64). -/
def State.noticeCondition (s : State) : Bool :=
  s.noticeEnable && (decide (s.threshold.toNat ≤ s.list.length) || (s.linger != 0#8 && s.lingered))

/-- Some link has an event that is both latched and enabled (R68). -/
def State.eventAttention (s : State) : Bool := s.links.toList.any (fun k => k.events &&& k.enables != 0#6)

/-- The ATTN output (R68): deasserted while RST_N is low. -/
def State.attn (s : State) : Bool := !s.rstLow && (s.noticeCondition || s.eventAttention)

/-! ## Codes -/

/-- The state code (Table 16). -/
def EntryState.code : EntryState → BitVec 3
  | .valid => 0#3
  | .priming => 1#3
  | .writing => 2#3
  | .settling => 3#3
  | .doubtful => 4#3
  | .refused => 5#3
  | .orphaned => 6#3

/-- The state code of a key that has no entry: UNWATCHED (R25). -/
def unwatchedCode : BitVec 3 := 7#3

/-- The bit of a reason in the set (Table 77). -/
def Reason.bit : Reason → BitVec 8
  | .changed => 0x01#8
  | .first => 0x02#8
  | .writeFailed => 0x04#8
  | .writeUnknown => 0x08#8
  | .pollFailed => 0x10#8
  | .refused => 0x20#8
  | .orphaned => 0x40#8
  | .recovered => 0x80#8

/-- The set of a list of reasons (R51). -/
def reasonSet (rs : List Reason) : BitVec 8 := rs.foldl (fun b r => b ||| r.bit) 0#8

/-- The bit of a link event (Table 80). -/
def LinkEvent.bit : LinkEvent → BitVec 6
  | .stationLost => 0x01#6
  | .stationFound => 0x02#6
  | .slotOverrun => 0x04#6
  | .demandExpired => 0x08#6
  | .writeFault => 0x10#6
  | .halted => 0x20#6

/-- The link state code (Table 80). -/
def LinkState.code : LinkState → BitVec 2
  | .off => 0#2
  | .running => 1#2
  | .stopping => 2#2
  | .halted => 3#2

/-- The halt reason code (Table 80). -/
def HaltReason.code : HaltReason → BitVec 2
  | .none => 0#2
  | .hostStop => 1#2
  | .lineFault => 2#2

/-- The demand slot code (Table 80). -/
def DemandSlot.code : DemandSlot → BitVec 2
  | .empty => 0#2
  | .waiting _ => 1#2
  | .inFlight _ => 2#2
  | .ready _ _ _ => 3#2

/-- The outcome code of the write-fault record (R148). -/
def FaultOutcome.code : FaultOutcome → BitVec 2
  | .none => 0#2
  | .rejected => 1#2
  | .blocked => 2#2
  | .unknown => 3#2

/-- HTERM1-HTERM0 (Table 74). -/
def Termination.pins : Termination → BitVec 2
  | .notEnded => 0b00#2
  | .done => 0b01#2
  | .retry => 0b10#2
  | .error => 0b11#2

/-- The standing code of a station record (Table 79). The table has no code for an UNSEEN record with the seen indicator
set or a PRESENT one with it clear: no event makes one, and the code of the state is shown (notes/assumptions/15.md). -/
def StationRecord.standingCode (r : StationRecord) : BitVec 3 :=
  match r.standing with
  | .unseen => 0#3
  | .present => 1#3
  | .held ⟨.station, _⟩ => if r.seen then 3#3 else 2#3
  | .held ⟨.host, _⟩ => if r.seen then 5#3 else 4#3
  | .missing => if r.seen then 7#3 else 6#3

/-- The hold remaining as the station view shows it: 0 but for a finite hold (R135). -/
def StationRecord.holdShown (r : StationRecord) : Nat :=
  match r.standing with
  | .held ⟨_, some n⟩ => n
  | _ => 0

/-! ## Layouts of the words the host reads. Bits outside the fields read 0 (R167). -/

/-- The response word (Table 75). -/
def responseWord (age : Nat) (listed stale : Bool) (code : BitVec 3) (value : Value) : Word :=
  BitVec.ofNat 8 age ++ 0#3 ++ BitVec.ofBool listed ++ BitVec.ofBool stale ++ code ++ value

/-- The response word of a lookup (R150, R151, Table 68). -/
def State.lookupWord (s : State) (e : Entry) : Word :=
  responseWord e.age (s.listed e.key) e.stale e.state.code e.value

/-- The response word of a delivered demand read (R151, R157, Table 68). -/
def State.deliveredWord (s : State) (k : Key) (v : Value) : Word :=
  match s.find k with
  | some e => responseWord 0 (s.listed k) false e.state.code v
  | none => responseWord 0 false false unwatchedCode v

/-- LIST_STATUS (R59, Table 75). -/
def State.listStatusWord (s : State) : Word :=
  0#14 ++ BitVec.ofBool s.lingered ++ BitVec.ofBool s.noticeCondition ++ 0#6 ++ BitVec.ofNat 10 s.list.length

/-- NOTICE_CTL (R60, Table 75). -/
def State.noticeCtlWord (s : State) : Word := 0#15 ++ BitVec.ofBool s.noticeEnable ++ s.linger ++ s.threshold

/-- The word a TAKE read returns for a record (R57, Table 77). -/
def ChangeRecord.takeWord (r : ChangeRecord) : Word :=
  BitVec.ofBool true ++ 0#3 ++ BitVec.ofNat 4 r.count ++ 0#8 ++ BitVec.ofNat 2 r.key.link.val
    ++ BitVec.ofNat 6 r.key.station.val ++ r.key.register

/-- TAKEN1 (Table 77). -/
def ChangeRecord.taken1 (r : ChangeRecord) : Word := 0#8 ++ r.reasons ++ r.oldValue

/-- TAKEN2 (Table 77): the entry at the take, bit 20 reading 0. The list holds records only of entries in the table
(R50); without the entry the word reads 0 (notes/assumptions/15.md). -/
def State.taken2 (s : State) (r : ChangeRecord) : Word :=
  match s.find r.key with
  | some e => responseWord e.age false e.stale e.state.code e.value
  | none => 0#32

/-- TAKEN3 (Table 77): the records left on the list. -/
def taken3 (left : Nat) : Word := 0#22 ++ BitVec.ofNat 10 left

/-- RESULT1 of an INSPECT snapshot (R16, Table 78). -/
def Entry.inspect1 (e : Entry) : Word :=
  BitVec.ofNat 2 e.key.link.val ++ BitVec.ofNat 6 e.key.station.val ++ e.key.register ++ e.value

/-- RESULT2 of an INSPECT snapshot (R16, Table 78). -/
def Entry.inspect2 (e : Entry) : Word :=
  e.mask ++ BitVec.ofBool e.noteFirst ++ 0#1 ++ (BitVec.ofFin e.phase : BitVec 6) ++ 0#1
    ++ (BitVec.ofFin e.periodCode : BitVec 3) ++ 0#1 ++ e.state.code

/-- RESULT3 of an INSPECT snapshot (R16, Table 78). -/
def State.inspect3 (s : State) (e : Entry) : Word :=
  BitVec.ofNat 8 e.age ++ BitVec.ofBool e.stale ++ BitVec.ofBool (s.listed e.key) ++ BitVec.ofBool e.failing
    ++ BitVec.ofBool e.doubt ++ 0#3 ++ BitVec.ofNat 5 e.pending ++ 0#3 ++ BitVec.ofNat 9 e.pos

/-- A number in bits 9-0 of a RESULT word: the position of WATCH and MODIFY, the count of PURGE (Table 78). -/
def numberWord (n : Nat) : Word := 0#22 ++ BitVec.ofNat 10 n

/-- The station view word of a record (R135, Table 79). -/
def State.stationViewWord (s : State) (l : LinkNo) (n : BitVec 6) : Word :=
  match stationOf n.toNat with
  | some st =>
    let r := s.station l st
    r.standingCode ++ BitVec.ofNat 4 r.misses ++ BitVec.ofNat 9 (s.entryCount l st) ++ BitVec.ofNat 16 r.holdShown
  | none => 0#32

/-- LINK_STATUS (R105, Table 80). -/
def Link.statusWord (k : Link) : Word :=
  0#1 ++ BitVec.ofNat 3 k.blockedRun ++ BitVec.ofNat 10 k.dropped ++ k.demand.code ++ 0#1
    ++ BitVec.ofNat 5 k.queue.length ++ (BitVec.ofFin k.position : BitVec 6) ++ k.haltReason.code ++ k.state.code

/-- The first WRITE_FAULT word (R149, Table 80). -/
def WriteFault.firstWord (f : WriteFault) : Word :=
  0#14 ++ f.outcome.code ++ 0#2 ++ f.dest.number ++ f.register

/-- The second WRITE_FAULT word (R149, Table 80). -/
def WriteFault.secondWord (f : WriteFault) : Word := 0#16 ++ f.data

/-- What a read of a control-block word other than TAKE returns (Table 72). Such a read changes nothing. -/
def State.readControl (s : State) : ControlWord → Word
  | .ident => Config.ident
  | .command => s.command
  | .arg n => s.args[n]
  | .result n => s.results[n]
  | .take =>
    match s.list with
    | [] => 0#32
    | r :: _ => r.takeWord
  | .taken n => s.taken[n]
  | .listStatus => s.listStatusWord
  | .noticeCtl => s.noticeCtlWord
  | .linkStatus l => (s.link l).statusWord
  | .linkEvents l => (s.link l).events.setWidth 32
  | .linkEnables l => (s.link l).enables.setWidth 32
  | .faultFirst l => (s.link l).fault.firstWord
  | .faultSecond l => (s.link l).fault.secondWord
  | .stationView l n => s.stationViewWord l n

/-! ## The line pins -/

/-- Whether SLC toggles: in every bit time of a frame, a turnaround or a reply window (R107, Table 41). -/
def Link.slcToggling (k : Link) : Bool :=
  match k.line.phase with
  | .request | .turnaround | .reply => true
  | .idle | .wait | .gap => false

/-- Whether the part drives SLD low in the present bit time: at the 0 bits and the start bits of its request frame and
nowhere else (R107, R109, R112). -/
def Link.sldDrivenLow (k : Link) : Bool :=
  match k.line.phase, k.inFlight with
  | .request, some tx => !(tx.frame.getD (tx.frameBits - k.line.timer.left) true)
  | _, _ => false

/-- The level the stations leave on SLD of a link in the present bit time of its attempt. -/
def State.level (s : State) (l : LinkNo) : Bool := s.sld[l].headD true

/-- SLC of a link toggles. -/
def State.slcToggling (s : State) (l : LinkNo) : Bool := (s.link l).slcToggling

/-- SLD of a link is driven low by the part. -/
def State.sldDrivenLow (s : State) (l : LinkNo) : Bool := (s.link l).sldDrivenLow

end Sys2Proof.Machine
end

