-- ==== Sys2Proof/Machine/Ops.lean ====
section
/-! DEFINITION. The named operations over the state that the meanings share: updating a link, answering the host, the
table, the change list with its notices, link events, and the slot and station records. -/

namespace Sys2Proof.Machine

/-! ## Updates -/

/-- Change the column of one link. -/
def State.updLink (s : State) (l : LinkNo) (f : Link → Link) : State :=
  { s with links := s.links.set l.val (f s.links[l]) l.isLt }

/-- Replace the record of a station. -/
def Link.setStation (k : Link) (st : StationNo) (r : StationRecord) : Link :=
  { k with stations := k.stations.set st.val r st.isLt }

/-- Replace the record of a station of a link. -/
def State.setStation (s : State) (l : LinkNo) (st : StationNo) (r : StationRecord) : State :=
  s.updLink l (fun k => k.setStation st r)

/-- End the host access with a termination and, for a read that ends DONE, a data word (R162). DESIGN CHOICE: both stay
until the next host access ends or RST_N falls, though the spec does not say what HTERM1-HTERM0 and HD show between two
accesses (notes/assumptions/20.md). Unsafe. -/
def State.answer (s : State) (t : Termination) (d : Option Word) : State := { s with hterm := t, hdata := d }

/-- A link event is raised: its latched indicator becomes set, enabled or not (R65). -/
def Link.raise (k : Link) (e : LinkEvent) : Link := { k with events := k.events ||| e.bit }

/-! ## The linger timer (R61) -/

/-- A record becomes the oldest: the lingered indicator is cleared and the timer starts, or stops when linger is off. -/
def State.startLinger (s : State) : State :=
  { s with lingered := false, lingerTimer := if s.linger = 0#8 then none else some ⟨s.linger.toNat, 0⟩ }

/-- The list becomes empty: the timer stops and the lingered indicator is cleared. -/
def State.stopLinger (s : State) : State := { s with lingered := false, lingerTimer := none }

/-- The effect on the linger timer of the loss of the oldest record: the next record becomes the oldest, or the list is
empty (R55, R61). -/
def State.oldestLost (s : State) : State := if s.list.isEmpty then s.stopLinger else s.startLinger

/-! ## The change list -/

/-- A count of listings, which stops at 15 (R51). -/
def countUp (n more : Nat) : Nat := min 15 (n + more)

/-- A listing that joins the record already held: place, key and old value stay (R53). -/
def ChangeRecord.join (r : ChangeRecord) (rs : List Reason) : ChangeRecord :=
  { r with reasons := r.reasons ||| reasonSet rs, count := countUp r.count rs.length }

/-- A listing handed to the change list: the key of the entry, its reasons, and the value before the event (R48, R52,
R53). An append to an empty list makes a new oldest record (R61). -/
def State.listing (s : State) (k : Key) (rs : List Reason) (old : Value) : State :=
  if s.listed k then
    { s with list := s.list.map (fun r => if r.key = k then r.join rs else r) }
  else
    let appended : State :=
      { s with list := s.list ++ [{ key := k, reasons := reasonSet rs, oldValue := old, count := countUp 0 rs.length }] }
    if s.list.isEmpty then appended.startLinger else appended

/-- The records of the keys that `p` selects leave the list without a take (R55). -/
def State.removeRecords (s : State) (p : Key → Bool) : State :=
  let shorter : State := { s with list := s.list.filter (fun r => !p r.key) }
  match s.list with
  | [] => shorter
  | oldest :: _ => if p oldest.key then shorter.oldestLost else shorter

/-! ## The watch table -/

/-- The bucket of a key (R3). -/
def Key.bucket (k : Key) : Nat := (k.register.toNat + 9 * k.station.val + 33 * k.link.val) % 128

/-- The table position of a way of a bucket (R4). -/
def positionOf (bucket way : Nat) : Nat := bucket * 4 + way

/-- The lowest-numbered free way of a bucket (R4). -/
def State.freeWay (s : State) (bucket : Nat) : Option Nat :=
  (List.range 4).find? (fun w => !s.table.any (fun e => e.pos == positionOf bucket w))

/-- An entry put in its place among entries in ascending table position. -/
def insertEntry (e : Entry) : List Entry → List Entry
  | [] => [e]
  | x :: xs => if e.pos < x.pos then e :: x :: xs else x :: insertEntry e xs

/-- Entries leave the table; no other entry moves, and their records leave the list (R12, R19, R55). -/
def State.removeEntries (s : State) (p : Key → Bool) : State :=
  { s with table := s.table.filter (fun e => !p e.key) }.removeRecords p

/-- One event at the table that reaches the entries `p` selects. `f` gives an entry after the event and the reasons the
event lists for it; each listing carries the value before the event (R48), and the listings of one event reach the
list in ascending table position (R54). -/
def State.entryEvent (s : State) (p : Entry → Bool) (f : Entry → Entry × List Reason) : State :=
  let changed : State := { s with table := s.table.map (fun e => if p e then (f e).1 else e) }
  (s.table.filter p).foldl
    (fun t e => if (f e).2.isEmpty then t else t.listing e.key (f e).2 e.value) changed

/-- An event that reaches the entry of one key, if the key is watched (R5). -/
def State.keyEvent (s : State) (k : Key) (f : Entry → Entry × List Reason) : State :=
  s.entryEvent (fun e => e.key == k) f

/-- Whether an entry belongs to a station of a link. -/
def Entry.ofStation (l : LinkNo) (st : StationNo) (e : Entry) : Bool := e.key.link == l && e.key.station == st

/-! ## The demand slot -/

/-- A WAITING request for a station that becomes HELD or MISSING fails: READY with a failure (R158). -/
def Link.failDemand (k : Link) (st : StationNo) : Link :=
  match k.demand with
  | .waiting key => if key.station = st then { k with demand := .ready key none Config.demandLifetime } else k
  | _ => k

/-- A WAITING slot becomes EMPTY as its link enters STOPPING or HALTED (R160). -/
def Link.dropWaiting (k : Link) : Link :=
  match k.demand with
  | .waiting _ => { k with demand := .empty }
  | _ => k

/-! ## Station records -/

/-- A count of misses, which stops at 15 (R127). -/
def missUp (n : Nat) : Nat := min 15 (n + 1)

/-- The standing of a record that leaves HELD (R131, R133). -/
def StationRecord.afterHold (r : StationRecord) : StationRecord :=
  { r with standing := if r.seen then .present else .unseen }

/-- A record becomes HELD, or has its hold replaced, and the new state is handed to the demand slot (R131). -/
def Link.enterHeld (k : Link) (st : StationNo) (r : StationRecord) (h : Hold) : Link :=
  (k.setStation st { r with standing := .held h }).failDemand st

/-! ## Slot timer and halts -/

/-- A full slot of 64 × N bit times under the slot setting in force (R70). -/
def Link.fullSlot (k : Link) : SlotTimer := .running ⟨64 * k.slotSetting, 0⟩

/-- The slot timer pauses and keeps what it holds (R71). -/
def SlotTimer.pause : SlotTimer → SlotTimer
  | .running t => .paused t
  | other => other

/-- A paused slot timer runs on (R71). -/
def SlotTimer.resume : SlotTimer → SlotTimer
  | .paused t => .running t
  | other => other

/-- Entry into STOPPING: the slot timer pauses and a WAITING slot becomes EMPTY (R91, R92). -/
def Link.enterStopping (k : Link) : Link :=
  { k with state := .stopping, slotTimer := k.slotTimer.pause }.dropWaiting

/-- Entry into HALTED: the slot timer stops, a WAITING slot becomes EMPTY, the halt reason is set and HALTED is raised
(R92). -/
def Link.enterHalted (k : Link) (why : HaltReason) : Link :=
  ({ k with state := .halted, haltReason := why, slotTimer := .stopped }.dropWaiting).raise .halted

/-! ## Host answers to commands -/

/-- The result codes (R165). -/
inductive ResultCode where
  | ok | notFound | duplicate | bucketFull | badArgument | linkBusy | stationMissing | notMissing | unknownCommand
  deriving DecidableEq, Repr

/-- The number of a result code in RESULT0 (R165). -/
def ResultCode.number : ResultCode → Word
  | .ok => 0#32
  | .notFound => 1#32
  | .duplicate => 2#32
  | .bucketFull => 3#32
  | .badArgument => 4#32
  | .linkBusy => 5#32
  | .stationMissing => 6#32
  | .notMissing => 7#32
  | .unknownCommand => 8#32

/-- A command leaves its result code in RESULT0 and its data in RESULT1-RESULT3 (R165). -/
def State.result (s : State) (c : ResultCode) (r1 r2 r3 : Word) : State :=
  { s with results := #v[c.number, r1, r2, r3] }

/-- A command leaves a result code and no data: every word its rule does not name is written 0 (R165). -/
def State.finish (s : State) (c : ResultCode) : State := s.result c 0#32 0#32 0#32

/-- A write of a command code to COMMAND: it stores the value, runs the command and ends DONE, or ends ERROR while RST_N
is low (R162, R164, R165). -/
def State.onCommand (s : State) (code : Word) (run : State → State) : State :=
  if s.rstLow then s.answer .error none
  else (run { s with command := code }).answer .done none

end Sys2Proof.Machine
end

