-- ==== Sys2Proof/Machine/Entries.lean ====
section
/-! DEFINITION. The transitions of a watch entry (02): each takes the entry before the event to the entry after it and
the reasons the event lists for it. -/

namespace Sys2Proof.Machine

/-- The final outcomes of a transaction (R119, Table 52). -/
inductive FinalOutcome where
  | ack (value : Value)
  | rejected
  | lost
  | corrupt
  | blocked
  | heldOff (quanta : BitVec 8)
  | ok
  | unknown
  | sent
  deriving DecidableEq, Repr

/-- An ACK counts as a change when the values differ in a bit whose mask bit is 1 (R8). -/
def Entry.changedBy (e : Entry) (v : Value) : Bool := (e.value ^^^ v) &&& e.mask != 0#16

/-- The entry made VALID by an ACK: value v, age 0, failing cleared (R32, R33). -/
def Entry.confirmed (e : Entry) (v : Value) : Entry :=
  { e with state := .valid, value := v, age := 0, failing := false }

/-- An ACK read result applied (R31 to R33). -/
def Entry.onAck (e : Entry) (v : Value) : Entry × List Reason :=
  match e.state with
  | .priming => (e.confirmed v, if e.noteFirst then [.first] else [])
  | .valid | .settling | .doubtful | .refused => (e.confirmed v, if e.changedBy v then [.changed] else [])
  | .writing | .orphaned => (e, [])

/-- A REJECTED read result applied (R31, R34). -/
def Entry.onRejected (e : Entry) : Entry × List Reason :=
  match e.state with
  | .priming | .valid | .settling | .doubtful => ({ e with state := .refused, failing := false }, [.refused])
  | .refused => ({ e with failing := false }, [])
  | .writing | .orphaned => (e, [])

/-- A read result LOST, CORRUPT or BLOCKED applied (R31, R35). -/
def Entry.onFailedRead (e : Entry) : Entry × List Reason :=
  match e.state with
  | .writing => (e, [])
  | .priming | .valid | .settling | .doubtful | .refused | .orphaned =>
    if e.failing then (e, []) else ({ e with failing := true }, [.pollFailed])

/-- A read result applied to the entry of its key, by outcome (R31, Table 17). -/
def Entry.onReadResult (o : FinalOutcome) (e : Entry) : Entry × List Reason :=
  match o with
  | .ack v => e.onAck v
  | .rejected => e.onRejected
  | .lost | .corrupt | .blocked => e.onFailedRead
  | .heldOff _ | .ok | .unknown | .sent => (e, [])

/-- The acceptance of a host write for the key (R37). -/
def Entry.onEnqueue (d : Value) (e : Entry) : Entry × List Reason :=
  ({ e with
      value := d
      pending := e.pending + 1
      doubt := if e.state = .writing then e.doubt else false
      state := .writing }, [])

/-- The entry when a write completion has lowered pending: at 0 it leaves WRITING (R38, R39). -/
def Entry.lowered (e : Entry) (bad : Bool) : Entry :=
  { e with
    pending := e.pending - 1
    doubt := e.doubt || bad
    state := if e.pending = 1 then (if e.doubt || bad then .doubtful else .settling) else e.state }

/-- A write completion applied (R38, R39). With pending 0 it changes nothing, and HELD_OFF is no write completion. -/
def Entry.onWriteCompletion (o : FinalOutcome) (e : Entry) : Entry × List Reason :=
  if e.pending = 0 then (e, [])
  else
    match o with
    | .ok => (e.lowered false, [])
    | .rejected | .blocked => (e.lowered true, [.writeFailed])
    | .unknown => (e.lowered true, [.writeUnknown])
    | .ack _ | .lost | .corrupt | .heldOff _ | .sent => (e, [])

/-- A SENT broadcast marks the entry (R41). -/
def Entry.onSent (e : Entry) : Entry × List Reason :=
  match e.state with
  | .valid | .settling => ({ e with state := .doubtful }, [])
  | .priming | .writing | .doubtful | .refused | .orphaned => (e, [])

/-- The loss of the entry's station (R42). -/
def Entry.onStationLost (e : Entry) : Entry × List Reason :=
  ({ e with state := .orphaned, pending := 0 },
    if e.pending = 0 then [.orphaned] else [.writeFailed, .orphaned])

/-- The entry's station answers a probe (R44). -/
def Entry.onRevival (e : Entry) : Entry × List Reason :=
  match e.state with
  | .orphaned => ({ e with state := .priming }, [.recovered])
  | .valid | .priming | .writing | .settling | .doubtful | .refused => (e, [])

/-- FORGET of the entry's station (R45). -/
def Entry.onForget (e : Entry) : Entry × List Reason :=
  match e.state with
  | .orphaned => ({ e with state := .priming }, [])
  | .valid | .priming | .writing | .settling | .doubtful | .refused => (e, [])

/-- A link reset (R46). `sentWhole` names the key of an abandoned write whose request had been sent whole; its entry
lists WRITE_UNKNOWN instead (R47). -/
def Entry.onLinkReset (sentWhole : Option Key) (e : Entry) : Entry × List Reason :=
  match e.state with
  | .orphaned => ({ e with state := .priming }, [])
  | .writing =>
    ({ e with state := .doubtful, pending := 0 },
      if sentWhole = some e.key then [.writeUnknown] else [.writeFailed])
  | .valid | .priming | .settling | .doubtful | .refused => (e, [])

/-- MODIFY: the schedule, mask and option are replaced, and a REFUSED entry becomes PRIMING (R14, R15). -/
def Entry.modified (e : Entry) (code : Fin 8) (phase : Fin 64) (mask : Value) (noteFirst : Bool) : Entry :=
  { e with
    periodCode := code
    phase := phase
    mask := mask
    noteFirst := noteFirst
    state := if e.state = .refused then .priming else e.state }

/-- A slot tick of the entry's link: age rises by 1 and stops at 255 (R21). -/
def Entry.aged (e : Entry) : Entry := { e with age := min 255 (e.age + 1) }

/-- The data of the newest queued record for a register of a station; 0000h when there is none (R10). -/
def Link.newestData (k : Link) (st : StationNo) (reg : RegNo) : Value :=
  match k.queue.reverse.find? (fun r => r.dest == .station st && r.register == reg) with
  | some r => r.data
  | none => 0#16

/-- The entry a successful WATCH creates (R10, Table 9). -/
def State.newEntry (s : State) (k : Key) (pos : Nat) (code : Fin 8) (phase : Fin 64) (mask : Value)
    (noteFirst : Bool) : Entry :=
  let column := s.link k.link
  let missing := (column.station k.station).isMissing
  let queued := if missing then 0 else column.queuedFor k.station k.register
  { key := k
    pos := pos
    value := if queued = 0 then 0#16 else column.newestData k.station k.register
    state := if missing then .orphaned else if queued = 0 then .priming else .writing
    periodCode := code
    phase := phase
    mask := mask
    noteFirst := noteFirst
    pending := queued
    doubt := false
    failing := false
    age := 0 }

end Sys2Proof.Machine
end

