-- ==== Sys2Proof/Machine/Line.lean ====
section
/-! DEFINITION. The station link protocol (06): how an attempt is classified from what the part saw on SLD, which
attempts are retried, and the phases of the line interface. -/

namespace Sys2Proof.Machine

/-! ## Classifying an attempt -/

/-- The classes of an attempt (R113, Table 46), and "sent whole" for a broadcast. -/
inductive AttemptClass where
  | contended
  | silent
  | garbled
  | ack (value : Value)
  | reject
  | hold (quanta : BitVec 8)
  | sentWhole
  deriving DecidableEq, Repr

/-- The level the stations leave on SLD in a bit time of the attempt, counted from 0; released where none is given. -/
def outside (sld : List Bool) (i : Nat) : Bool := sld.getD i true

/-- The first bit of the request, counted from 0, at which the part left SLD released and SLD sampled 0 (R111). -/
def contentionBit (frame : List Bool) (sld : List Bool) : Option Nat :=
  (List.range frame.length).find? (fun i => frame.getD i true && !outside sld i)

/-- Contention: there is such a bit (R111). -/
def contention (frame : List Bool) (sld : List Bool) : Bool := (contentionBit frame sld).isSome

/-- The field of `w` bits sampled from a bit time on, the first bit most significant (R107). -/
def sampled (sld : List Bool) (start w : Nat) : BitVec w :=
  (List.range w).foldl (fun v i => (v <<< 1) ||| (BitVec.ofBool (outside sld (start + i))).setWidth w) 0#w

/-- The class of a reply window whose first code bit stands at bit time `at0` (R112, R113). The part leaves SLD released
through the window, so what it samples is what the stations leave. -/
def replyClass (isRead : Bool) (sld : List Bool) (at0 : Nat) : AttemptClass :=
  let code : BitVec 3 := sampled sld at0 3
  let b8 : Nat → BitVec 8 := fun i => sampled sld (at0 + 3 + i) 8
  if code = 7#3 then .silent
  else if code = 5#3 then
    if isRead then
      if sumBytes [5#8, b8 0, b8 8, b8 16] = 0xFF#8 then .ack (b8 0 ++ b8 8) else .garbled
    else if sumBytes [5#8, b8 0] = 0xFF#8 then .ack 0#16 else .garbled
  else if code = 6#3 then
    if sumBytes [6#8, b8 0] = 0xFF#8 then .reject else .garbled
  else if code = 3#3 then
    if sumBytes [3#8, b8 0, b8 8] = 0xFF#8 ∧ b8 0 ≠ 0#8 then .hold (b8 0) else .garbled
  else .garbled

/-- The class of an attempt (R113): contention first, unless the request is known to have been sent whole; a broadcast
sent whole has no further class (R118). -/
def classify (tx : Transaction) (sentWhole : Bool) (sld : List Bool) : AttemptClass :=
  if !sentWhole && contention tx.frame sld then .contended
  else if tx.isBroadcast then .sentWhole
  else replyClass tx.isRead sld (tx.frameBits + Config.turnaroundBits)

/-- The bits of a reply window after its code (Table 45). -/
def bitsAfterCode (isRead : Bool) (code : BitVec 3) : Nat :=
  if code = 5#3 then (if isRead then 24 else 8)
  else if code = 6#3 then 8
  else if code = 3#3 then 16
  else if code = 7#3 then 0
  else if isRead then 24 else 16

/-- The bits of a reply window with a code (R112, Table 45). -/
def windowBits (isRead : Bool) (code : BitVec 3) : Nat := Config.codeBits + bitsAfterCode isRead code

/-- How many bit times an attempt holds the line, from its first lead bit (R121, Table 53). -/
def attemptBits (tx : Transaction) (sld : List Bool) : Nat :=
  match contentionBit tx.frame sld with
  | some b => b + 1
  | none =>
    if tx.isBroadcast then tx.frameBits
    else
      tx.frameBits + Config.turnaroundBits +
        windowBits tx.isRead (sampled sld (tx.frameBits + Config.turnaroundBits) 3)

/-- Whether a class asks for another attempt while attempts remain (Tables 47, 49 and 51). -/
def AttemptClass.retried (tx : Transaction) : AttemptClass → Bool
  | .contended => true
  | .silent | .garbled => tx.isRead
  | .ack _ | .reject | .hold _ | .sentWhole => false

/-- The final outcome of a transaction whose last attempt had a class (Tables 47, 49 and 51). -/
def AttemptClass.outcome (tx : Transaction) : AttemptClass → FinalOutcome
  | .contended => .blocked
  | .silent => if tx.isRead then .lost else .unknown
  | .garbled => if tx.isRead then .corrupt else .unknown
  | .ack v => if tx.isRead then .ack v else .ok
  | .reject => .rejected
  | .hold q => .heldOff q
  | .sentWhole => .sent

/-! ## Replies, as a station sends them -/

/-- The replies a station may send (R112, Table 45). -/
inductive Reply where
  | ackRead (value : Value)
  | ackWrite
  | reject
  | hold (quanta : BitVec 8)
  deriving DecidableEq, Repr

/-- The items of a reply that its check covers (R110, Table 43). -/
def Reply.items : Reply → List (BitVec 8)
  | .ackRead v => [5#8, hiByte v, loByte v]
  | .ackWrite => [5#8]
  | .reject => [6#8]
  | .hold q => [3#8, q]

/-- The check of a reply (R110). -/
def Reply.check (r : Reply) : BitVec 8 := 0xFF#8 - sumBytes r.items

/-- The bits of a reply, the first code bit first (Table 81). -/
def Reply.bits (r : Reply) : List Bool :=
  (match r with
    | .ackRead v => bitsOf 5#3 ++ bitsOf v
    | .ackWrite => bitsOf 5#3
    | .reject => bitsOf 6#3
    | .hold q => bitsOf 3#3 ++ bitsOf q) ++ bitsOf r.check

/-- The class a reply gives to the attempt it answers (Table 46). -/
def Reply.attemptClass : Reply → AttemptClass
  | .ackRead v => .ack v
  | .ackWrite => .ack 0#16
  | .reject => .reject
  | .hold q => .hold q

/-- The replies a transaction may get: data only in an ACK to a READ, quanta of 1-255 only in a HOLD, and no reply to a
broadcast (R112, R118, Table 54). -/
def Reply.answers (r : Reply) (tx : Transaction) : Bool :=
  !tx.isBroadcast &&
  match r with
  | .ackRead _ => tx.isRead
  | .ackWrite => !tx.isRead
  | .reject => true
  | .hold q => q != 0#8

/-- What the stations leave on SLD in an attempt whose request goes out unopposed and is answered at once: released
through the request and the turnaround, then the reply (R112). -/
def Reply.levels (r : Reply) (tx : Transaction) : List Bool :=
  List.replicate (tx.frameBits + Config.turnaroundBits) true ++ r.bits

/-! ## Phases of the line interface -/

/-- The lead of an attempt begins: REQUEST, the sent-whole indicator clear (R111). -/
def LineState.lead (n : LineState) (tx : Transaction) (attempt : Nat) : LineState :=
  { n with phase := .request, attempt := attempt, sentWhole := false, reply := [], rest := .none,
           timer := ⟨tx.frameBits, 0⟩ }

/-- A transaction is handed to the line interface: attempt 1 begins at once, or waits out the gap or quiet time that
runs (R99, R114, R120). -/
def LineState.issue (n : LineState) (tx : Transaction) : LineState :=
  match n.rest with
  | .none => n.lead tx 1
  | .gap | .quiet => { n with phase := .wait, attempt := 1, sentWhole := false, reply := [] }

/-- The request has been sent whole: TURNAROUND (R111, R112). -/
def LineState.sent (n : LineState) : LineState :=
  { n with phase := .turnaround, sentWhole := true, timer := ⟨Config.turnaroundBits, 0⟩ }

/-- The reply window opens, with its 3 code bits to come (R112). -/
def LineState.openWindow (n : LineState) : LineState :=
  { n with phase := .reply, reply := [], timer := ⟨Config.codeBits, 0⟩ }

/-- The bits of the reply window under way as far as they are known: the code decides what follows it (R112). -/
def LineState.windowBits (n : LineState) (isRead : Bool) : Nat :=
  if n.reply.length < Config.codeBits then Config.codeBits
  else Machine.windowBits isRead (sampled n.reply 0 3)

/-- A bit of the reply is gathered as the bit times counted run out, and the code has asked for more of them (R108,
R112). -/
def LineState.lengthen (n : LineState) (bits : List Bool) (more : Nat) : LineState :=
  { n with reply := bits, timer := ⟨more, 0⟩ }

/-- The levels of the attempt under way, by the event that ends it and by what the line interface holds: the reply bits
gathered so far stand in their bit times, whatever the event brings there (R108; notes/assumptions/13.md). -/
def LineState.seen (n : LineState) (tx : Transaction) (sld : List Bool) : List Bool :=
  let ahead := tx.frameBits + Config.turnaroundBits
  (List.range ahead).map (outside sld) ++ n.reply ++ sld.drop (ahead + n.reply.length)

/-- An attempt has ended and another follows: the gap runs (R114). The sent-whole indicator stays
(notes/assumptions/19.md) and the reply bits are cleared (notes/assumptions/22.md). -/
def LineState.retryGap (n : LineState) : LineState :=
  { n with phase := .gap, reply := [], rest := .gap, timer := ⟨Config.gapBits, 0⟩ }

/-- The transaction has completed: IDLE with the gap running (R114, R119). DESIGN CHOICE: the sent-whole indicator and the
reply bits are cleared, though R108 and R111 say what they hold for the attempt under way only
(notes/assumptions/22.md). Unsafe. -/
def LineState.completed (n : LineState) : LineState :=
  { n with phase := .idle, attempt := 0, sentWhole := false, reply := [], rest := .gap,
           timer := ⟨Config.gapBits, 0⟩ }

/-- The gap or quiet time has run out: the attempt it kept back begins, if there is one (R114, R120). The attempt number
rises at the lead of a retry (notes/assumptions/19.md). -/
def LineState.rested (n : LineState) (tx : Option Transaction) : LineState :=
  match n.phase, tx with
  | .gap, some t => n.lead t (n.attempt + 1)
  | .wait, some t => n.lead t 1
  | _, _ => { n with rest := .none, timer := ⟨0, 0⟩ }

/-- Whether an attempt is under way (R108). -/
def LineState.underWay (n : LineState) : Bool :=
  match n.phase with
  | .request | .turnaround | .reply => true
  | .idle | .wait | .gap => false

end Sys2Proof.Machine
end

