-- ==== Sys2Proof/Machine/Wheel.lean ====
section
/-! DEFINITION. The poll wheel (04): the due test, batch capture, and the draw-time checks. -/

namespace Sys2Proof.Machine

/-- Whether an entry is due by its own state and schedule at a wheel position (R7, R26, R75). -/
def Entry.dueAt (e : Entry) (position : Fin 64) : Bool :=
  match e.state with
  | .priming | .settling | .doubtful => true
  | .valid => e.periodCode != 0 && position.val % period e.periodCode == e.phase.val
  | .writing | .refused | .orphaned => false

/-- Whether the wheel leaves a station alone: its record is HELD or MISSING (R75, R79). -/
def StationRecord.leftAlone (r : StationRecord) : Bool := r.isHeld || r.isMissing

/-- The place of a key in the capture order: ascending station, then register (R75). -/
def Key.captureRank (k : Key) : Nat := k.station.val * 256 + k.register.toNat

/-- A key put in its place in capture order. -/
def insertKey (k : Key) : List Key → List Key
  | [] => [k]
  | x :: xs => if k.captureRank < x.captureRank then k :: x :: xs else x :: insertKey k xs

/-- Keys in ascending order of station and register (R75). -/
def inCaptureOrder (ks : List Key) : List Key := ks.foldr insertKey []

/-- The stations a capture at position 0 probes, in ascending order: MISSING with at least one entry (R74). -/
def State.probeTargets (s : State) (l : LinkNo) : List StationNo :=
  (List.finRange 63).filter (fun st => (s.station l st).isMissing && decide (1 ≤ s.entryCount l st))

/-- The keys a capture polls, in capture order: due entries of stations that are neither HELD nor MISSING (R75). -/
def State.pollTargets (s : State) (l : LinkNo) (position : Fin 64) : List Key :=
  inCaptureOrder ((s.table.filter (fun e =>
    e.key.link == l && e.dueAt position && !(s.station l e.key.station).leftAlone)).map Entry.key)

/-- The batch a capture forms: at position 0 the probes first, then the polls (R74, R75, R77). -/
def State.capture (s : State) (l : LinkNo) (position : Fin 64) : List BatchItem :=
  (if position = 0 then (s.probeTargets l).map BatchItem.probe else [])
    ++ (s.pollTargets l position).map BatchItem.poll

/-- Whether the state of an entry lets a poll of it be drawn (R26, R79). -/
def EntryState.drawable : EntryState → Bool
  | .valid | .priming | .settling | .doubtful => true
  | .writing | .refused | .orphaned => false

/-- The draw-time checks of an item of a link's batch (R79). `alsoHeld` are stations counted as held besides those
whose record is (R73). -/
def State.passes (s : State) (l : LinkNo) (alsoHeld : List StationNo) : BatchItem → Bool
  | .poll k =>
    match s.find k with
    | some e => e.state.drawable && !(s.station l k.station).leftAlone && !alsoHeld.contains k.station
    | none => false
  | .probe st => (s.station l st).isMissing

/-- The items of the old batch that an overrun counts at a slot tick: those that pass the checks as they stand before
the tick's countdown of holds (R73). -/
def State.overrunItems (s : State) (l : LinkNo) : List BatchItem :=
  (s.link l).batch.filter (s.passes l (s.link l).endedHolds)

/-- The overrun of a slot tick: the dropped count takes the number of passing items and SLOT_OVERRUN is raised; with
no passing item both stay (R73). -/
def Link.overrun (k : Link) (n : Nat) : Link := if n = 0 then k else { k with dropped := n }.raise .slotOverrun

/-- One count of a finite hold, which ends it at 0 (R131). -/
def StationRecord.tick (r : StationRecord) : StationRecord :=
  match r.standing with
  | .held ⟨source, some n⟩ => if n ≤ 1 then r.afterHold else { r with standing := .held ⟨source, some (n - 1)⟩ }
  | .held ⟨_, none⟩ | .unseen | .present | .missing => r

/-- One slot tick at the demand slot: a READY result loses one of its lifetime and, at 0, is discarded with
DEMAND_EXPIRED raised (R159). -/
def Link.demandTick (k : Link) : Link :=
  match k.demand with
  | .ready key result n =>
    if n ≤ 1 then { k with demand := .empty }.raise .demandExpired
    else { k with demand := .ready key result (n - 1) }
  | .empty | .waiting _ | .inFlight _ => k

end Sys2Proof.Machine
end

