-- ==== Sys2Proof/Machine/Engine.lean ====
section
/-! DEFINITION. The link engine (05): the arbiter, issue, the end of an attempt and the completion of a transaction with
everything it sets off (02, 06, 07, 08, 09), slot ticks, and the reset of a link. -/

namespace Sys2Proof.Machine

/-! ## The arbiter -/

/-- The WRITE group is eligible: a head whose station is not HELD, or a broadcast head (R97, R141). -/
def Link.writeEligible (k : Link) : Bool :=
  match k.queue with
  | [] => false
  | r :: _ =>
    match r.dest with
    | .broadcast => true
    | .station st => !(k.station st).isHeld

/-- The DEMAND group is eligible: the slot is WAITING (R97). -/
def Link.demandEligible (k : Link) : Bool :=
  match k.demand with
  | .waiting _ => true
  | .empty | .inFlight _ | .ready _ _ _ => false

/-- The POLL group is eligible: the batch holds an item that passes the draw-time checks (R78, R97). -/
def State.pollEligible (s : State) (l : LinkNo) : Bool := (s.link l).batch.any (s.passes l [])

/-- Whether a group of a link is eligible (R97, Table 35). -/
def State.eligible (s : State) (l : LinkNo) : Group → Bool
  | .write => (s.link l).writeEligible
  | .demand => (s.link l).demandEligible
  | .poll => s.pollEligible l

/-- The groups in the order a pick tries them: the one after the pointer first (R98). -/
def Group.cycleAfter : Group → List Group
  | .write => [.demand, .poll, .write]
  | .demand => [.poll, .write, .demand]
  | .poll => [.write, .demand, .poll]

/-- The group a pick takes, if any is eligible (R98). -/
def State.nextGroup (s : State) (l : LinkNo) : Option Group :=
  (s.link l).pointer.cycleAfter.find? (s.eligible l)

/-- A transaction is issued for a group: the link engine records it, the pointer names the group, and the line interface
takes it (R98, R99). -/
def Link.start (k : Link) (g : Group) (tx : Transaction) : Link :=
  { k with pointer := g, inFlight := some tx, line := k.line.issue tx }

/-- The transaction of a write record (R141). -/
def WriteRecord.transaction (r : WriteRecord) : Transaction :=
  match r.dest with
  | .station st => .write st r.register r.data
  | .broadcast => .broadcast r.register r.data

/-- The transaction of a batch item: a read of the key's register, or of register 0 for a probe (R78). -/
def BatchItem.transaction : BatchItem → Transaction
  | .poll k => .poll k.station k.register
  | .probe st => .probe st

/-- Issue for the WRITE group: the head stays at the head and becomes the record in flight (R99, R141). -/
def Link.issueWrite (k : Link) : Link :=
  match k.queue with
  | [] => k
  | r :: rest => { k with queue := { r with inFlight := true } :: rest }.start .write r.transaction

/-- Issue for the DEMAND group: the slot becomes IN_FLIGHT (R99, R155). -/
def Link.issueDemand (k : Link) : Link :=
  match k.demand with
  | .waiting key => { k with demand := .inFlight key }.start .demand (.demandRead key.station key.register)
  | .empty | .inFlight _ | .ready _ _ _ => k

/-- Issue for the POLL group: failing items before the first passing one are discarded, and that one is drawn (R78). -/
def Link.issuePoll (k : Link) (passes : BatchItem → Bool) : Link :=
  match k.batch.dropWhile (fun i => !passes i) with
  | [] => k
  | i :: rest => { k with batch := rest }.start .poll i.transaction

/-- Issue for a group (R99). -/
def State.issue (s : State) (l : LinkNo) (g : Group) : State :=
  s.updLink l (fun k =>
    match g with
    | .write => k.issueWrite
    | .demand => k.issueDemand
    | .poll => k.issuePoll (s.passes l []))

/-- The arbiter picks, when the link is RUNNING, its line is free and a group is eligible (R98). Every event that can make
a group eligible ends with this (notes/assumptions/8.md). -/
def State.arbitrate (s : State) (l : LinkNo) : State :=
  if (s.link l).state = .running ∧ (s.link l).inFlight = none then
    match s.nextGroup l with
    | some g => s.issue l g
    | none => s
  else s

/-! ## Effects of a completion on the station record -/

/-- The four effects of a completion on a station record (Table 57). -/
inductive StationEffect where
  | none
  | reply
  | hold (quanta : BitVec 8)
  | silence
  deriving DecidableEq, Repr

/-- The effect of a final outcome and the class of the last attempt (Table 57). -/
def stationEffect (o : FinalOutcome) (c : AttemptClass) : StationEffect :=
  match o with
  | .ack _ | .rejected | .ok => .reply
  | .heldOff q => .hold q
  | .lost => .silence
  | .unknown => if c = .silent then .silence else .none
  | .corrupt | .blocked | .sent => .none

/-- The record after a reply: misses 0, seen set (R125). -/
def StationRecord.onReply (r : StationRecord) : StationRecord :=
  { standing := if r.standing = .unseen then .present else r.standing, misses := 0, seen := true }

/-- The record after a silence that loses no station: the miss count rises (R127). -/
def StationRecord.onSilence (r : StationRecord) : StationRecord := { r with misses := missUp r.misses }

/-- Whether a silence makes a record MISSING under a miss limit (R127). -/
def StationRecord.lostBy (r : StationRecord) (missLimit : Nat) : Bool :=
  (r.standing == .unseen || r.standing == .present) && decide (missLimit ≤ missUp r.misses)

/-- The loss of a station: the record becomes MISSING; its entries become ORPHANED, the queue loses its records, a
WAITING request for it fails and STATION_LOST is raised (R128). -/
def State.loseStation (s : State) (l : LinkNo) (st : StationNo) : State :=
  let lost := s.updLink l (fun k =>
    (({ k.setStation st { (k.station st).onSilence with standing := .missing } with
        queue := k.queue.filter (fun r => r.dest != Dest.station st) }).failDemand st).raise .stationLost)
  lost.entryEvent (Entry.ofStation l st) Entry.onStationLost

/-- A MISSING station answers a probe: the record becomes PRESENT, or HELD for the quanta of a HOLD; its ORPHANED entries
become PRIMING and STATION_FOUND is raised (R130). -/
def State.findStation (s : State) (l : LinkNo) (st : StationNo) (quanta : Option (BitVec 8)) : State :=
  let answered : StationRecord := { standing := .present, misses := 0, seen := true }
  let found := s.updLink l (fun k =>
    (match quanta with
      | none => k.setStation st answered
      | some q => k.enterHeld st answered ⟨.station, some q.toNat⟩).raise .stationFound)
  found.entryEvent (Entry.ofStation l st) Entry.onRevival

/-- A hold effect on a record that is not a MISSING one answering a probe (R126). On a record already HELD with source
STATION the spec states no hold remaining: it is a free value (notes/assumptions/5.md). -/
def State.holdEffect (s : State) (l : LinkNo) (st : StationNo) (q : BitVec 8) : State :=
  let r : StationRecord := { s.station l st with misses := 0, seen := true }
  match r.standing with
  | .unseen | .present => s.updLink l (fun k => k.enterHeld st r ⟨.station, some q.toNat⟩)
  | .held ⟨.host, _⟩ | .missing => s.setStation l st r
  | .held ⟨.station, _⟩ =>
    { s.setStation l st { r with standing := .held ⟨.station, some ((Config.heldAgain s.choices).val + 1)⟩ } with
      choices := s.choices + 1 }

/-- What a completion does at the station table (R125 to R127, R130). -/
def State.applyStation (s : State) (l : LinkNo) (st : StationNo) (probe : Bool) (eff : StationEffect) : State :=
  let r := s.station l st
  let probed := probe && r.isMissing
  match eff with
  | .none => s
  | .reply => if probed then s.findStation l st none else s.setStation l st r.onReply
  | .hold q => if probed then s.findStation l st (some q) else s.holdEffect l st q
  | .silence => if r.lostBy (s.link l).missLimit then s.loseStation l st else s.setStation l st r.onSilence

/-- Whether a completion loses the station it is addressed to (R127, R128). -/
def State.losesStation (s : State) (l : LinkNo) (st : StationNo) (eff : StationEffect) : Bool :=
  eff == .silence && (s.station l st).lostBy (s.link l).missLimit

/-! ## Completion (R102, Table 36) -/

/-- What a completion does at the watch table: a read result, a write completion or the marking of a SENT broadcast; a
probe names no entry (R31, R38, R41). -/
def State.applyTable (s : State) (l : LinkNo) (tx : Transaction) (o : FinalOutcome) : State :=
  match tx with
  | .poll st reg | .demandRead st reg => s.keyEvent ⟨l, st, reg⟩ (Entry.onReadResult o)
  | .probe _ => s
  | .write st reg _ => s.keyEvent ⟨l, st, reg⟩ (Entry.onWriteCompletion o)
  | .broadcast reg _ =>
    if o = .sent then s.entryEvent (fun e => e.key.link == l && e.key.register == reg) Entry.onSent else s

/-- The write queue at a completion: the record in flight is removed, or kept with its indicator cleared on HELD_OFF
(R142, R143, R144). -/
def Link.settleQueue (k : Link) (tx : Transaction) (o : FinalOutcome) : Link :=
  match tx with
  | .write _ _ _ | .broadcast _ _ =>
    match o with
    | .heldOff _ => { k with queue := k.queue.map (fun r => { r with inFlight := false }) }
    | .ok | .rejected | .unknown | .blocked | .sent | .ack _ | .lost | .corrupt =>
      { k with queue := k.queue.eraseP (fun r => r.inFlight) }
  | .poll _ _ | .probe _ | .demandRead _ _ => k

/-- The demand slot at a completion: the slot's read makes it READY with the value of an ACK, or with a failure (R156). -/
def Link.settleDemand (k : Link) (tx : Transaction) (o : FinalOutcome) : Link :=
  match tx, k.demand with
  | .demandRead _ _, .inFlight key =>
    match o with
    | .ack v => { k with demand := .ready key (some v) Config.demandLifetime }
    | .rejected | .lost | .corrupt | .blocked | .heldOff _ | .ok | .unknown | .sent =>
      { k with demand := .ready key none Config.demandLifetime }
  | _, _ => k

/-- The outcome a write-fault record takes, for the final outcomes that write one (R148). -/
def FinalOutcome.faultOutcome : FinalOutcome → Option FaultOutcome
  | .rejected => some .rejected
  | .blocked => some .blocked
  | .unknown => some .unknown
  | .ack _ | .lost | .corrupt | .heldOff _ | .ok | .sent => none

/-- The write-fault record at a completion, with WRITE_FAULT raised (R148). -/
def Link.settleFault (k : Link) (tx : Transaction) (o : FinalOutcome) : Link :=
  match tx, o.faultOutcome with
  | .write st reg d, some f => { k with fault := ⟨.station st, reg, d, f⟩ }.raise .writeFault
  | .broadcast reg d, some f => { k with fault := ⟨.broadcast, reg, d, f⟩ }.raise .writeFault
  | _, _ => k

/-- The blocked run at a completion (R104). -/
def Link.settleRun (k : Link) (o : FinalOutcome) : Link :=
  { k with blockedRun := if o = .blocked then min Config.lineFaultRun (k.blockedRun + 1) else 0 }

/-- What a completion does inside the link column but for the station table: queue, demand slot, write-fault record,
blocked run, and the line free with the gap running (R102, R119). -/
def Link.settle (k : Link) (tx : Transaction) (o : FinalOutcome) : Link :=
  let routed := (((k.settleQueue tx o).settleDemand tx o).settleFault tx o).settleRun o
  { routed with inFlight := none, line := routed.line.completed }

/-- The outcome handed to the watch table and the station table, in either order (R43, R102). -/
def State.route (s : State) (l : LinkNo) (tx : Transaction) (o : FinalOutcome) (c : AttemptClass)
    (stationFirst : Bool) : State :=
  match tx.station? with
  | none => s.applyTable l tx o
  | some st =>
    if stationFirst then (s.applyStation l st tx.isProbe (stationEffect o c)).applyTable l tx o
    else (s.applyTable l tx o).applyStation l st tx.isProbe (stationEffect o c)

/-- Routing with the order the spec leaves open taken from a free value. The order matters only where the completion
loses the station (R43); elsewhere the two reach different state (notes/assumptions/3.md). -/
def State.routeFree (s : State) (l : LinkNo) (tx : Transaction) (o : FinalOutcome) (c : AttemptClass) : State :=
  match tx.station? with
  | none => s.route l tx o c false
  | some st =>
    if s.losesStation l st (stationEffect o c) then
      { s.route l tx o c (Config.lossFirst s.choices) with choices := s.choices + 1 }
    else s.route l tx o c false

/-- The last act of a completion: a fourth BLOCKED halts the link by line fault, STOPPING ends in HALTED, and otherwise
the arbiter picks (R93, R102, R104). -/
def State.afterCompletion (s : State) (l : LinkNo) : State :=
  if (s.link l).blockedRun = Config.lineFaultRun then s.updLink l (fun k => k.enterHalted .lineFault)
  else if (s.link l).state = .stopping then s.updLink l (fun k => k.enterHalted .hostStop)
  else s.arbitrate l

/-- The completion of the transaction in flight on a link (R102). -/
def State.complete (s : State) (l : LinkNo) (tx : Transaction) (o : FinalOutcome) (c : AttemptClass) : State :=
  ((s.updLink l (fun k => k.settle tx o)).routeFree l tx o c).afterCompletion l

/-- The attempt under way ends in a class: a retry after the gap, or the completion (R113 to R118). -/
def State.endAttempt (s : State) (l : LinkNo) (tx : Transaction) (c : AttemptClass) : State :=
  if c.retried tx && decide ((s.link l).line.attempt ≤ (s.link l).retryLimit) then
    s.updLink l (fun k => { k with line := k.line.retryGap })
  else s.complete l tx (c.outcome tx) c

/-- ATTEMPT_END: the attempt under way, if there is one, is classified and ends (R113; notes/assumptions/2.md). -/
def State.attemptEnd (s : State) (l : LinkNo) (sld : List Bool) : State :=
  match (s.link l).inFlight with
  | some tx =>
    let n := (s.link l).line
    if n.underWay then s.endAttempt l tx (classify tx n.sentWhole (n.seen tx sld)) else s
  | none => s

/-- REQUEST_SENT_WHOLE: the request frame to a station 0-62 has been sent whole (R111, R112). -/
def State.requestSentWhole (s : State) (l : LinkNo) : State :=
  match (s.link l).inFlight with
  | some tx =>
    if (s.link l).line.phase = .request ∧ tx.isBroadcast = false then
      s.updLink l (fun k => { k with line := k.line.sent })
    else s
  | none => s

/-- The rest of a line runs out, if it is of the kind named: the attempt it kept back begins (R114, R120). -/
def State.restEnd (s : State) (l : LinkNo) (which : Rest) : State :=
  if s.rstLow = false ∧ (s.link l).line.rest = which then
    s.updLink l (fun k => { k with line := k.line.rested k.inFlight })
  else s

/-! ## The slot tick (R72) -/

/-- The countdown of the finite holds of a link (R131). -/
def Link.holdTick (k : Link) : Link := { k with stations := k.stations.map StationRecord.tick, endedHolds := [] }

/-- What a slot tick does before the capture: overrun of the old batch, the countdown of holds and of the demand
lifetime, the ageing of entries, and the new position and slot (R21, R72, R73, R131, R159). -/
def State.tickOwners (s : State) (l : LinkNo) : State :=
  let dropped := (s.overrunItems l).length
  let ticked := s.updLink l (fun k =>
    let t := ((k.overrun dropped).holdTick).demandTick
    { t with position := t.position + 1, slotTimer := t.fullSlot, batch := [] })
  { ticked with table := s.table.map (fun e => if e.key.link = l then e.aged else e) }

/-- A batch captured at the present position (R74, R75). A hold that ends at this tick has ended already, as R76 has the
capture see it. -/
def State.recapture (s : State) (l : LinkNo) : State :=
  s.updLink l (fun k => { k with batch := s.capture l (s.link l).position })

/-- SLOT_TICK of a RUNNING link; no other link has a running slot timer (R71, R72; notes/assumptions/2.md). -/
def State.slotTick (s : State) (l : LinkNo) : State :=
  if (s.link l).state = .running then ((s.tickOwners l).recapture l).arbitrate l else s

/-- HOLD_EXPIRY: the last slot of a finite hold is counted down, ahead of the rest of the tick (R131, R76;
notes/assumptions/6.md). -/
def State.holdExpiry (s : State) (l : LinkNo) (st : StationNo) : State :=
  match (s.station l st).standing with
  | .held ⟨_, some n⟩ =>
    if (s.link l).state = .running ∧ n ≤ 1 then
      (s.updLink l (fun k =>
        { k.setStation st (k.station st).afterHold with endedHolds := st :: k.endedHolds })).arbitrate l
    else s
  | .held ⟨_, none⟩ | .unseen | .present | .missing => s

/-- DEMAND_EXPIRY: the last slot of a READY result's lifetime is counted down, ahead of the rest of the tick (R159;
notes/assumptions/6.md). -/
def State.demandExpiry (s : State) (l : LinkNo) : State :=
  match (s.link l).demand with
  | .ready _ _ n =>
    if (s.link l).state = .running ∧ n ≤ 1 then s.updLink l Link.demandTick else s
  | .empty | .waiting _ | .inFlight _ => s

/-- LINGER_EXPIRY: a running linger timer stops and the lingered indicator is set (R62). -/
def State.lingerExpiry (s : State) : State :=
  match s.lingerTimer with
  | some _ => { s with lingerTimer := none, lingered := true }
  | none => s

/-! ## Resets -/

/-- The key of an abandoned write whose request had been sent whole (R47). -/
def Link.abandonedWhole (k : Link) (l : LinkNo) : Option Key :=
  match k.inFlight with
  | some (.write st reg _) => if k.line.sentWhole then some ⟨l, st, reg⟩ else none
  | some (.poll _ _) | some (.probe _) | some (.demandRead _ _) | some (.broadcast _ _) | none => none

/-- The link column after a link reset (R86, R94, R95, R106, R136, R147, R160). A quiet time starts where a transaction is
abandoned (R120; notes/assumptions/9.md). -/
def Link.afterReset (k : Link) : Link :=
  { k with
    state := .off
    pointer := .poll
    inFlight := none
    blockedRun := 0
    slotTimer := .stopped
    batch := []
    endedHolds := []
    queue := []
    demand := .empty
    stations := Vector.replicate 63 StationRecord.reset
    line := if k.inFlight.isSome then LineState.reset else k.line }

/-- A link reset (R94), with the changes it makes to the link's entries (R46). -/
def State.resetLink (s : State) (l : LinkNo) : State :=
  (s.updLink l Link.afterReset).entryEvent (fun e => e.key.link == l)
    (Entry.onLinkReset ((s.link l).abandonedWhole l))

end Sys2Proof.Machine
end

