-- ==== Sys2Proof/Machine/TableCommands.lean ====
section
/-! DEFINITION. The six table commands (R9 to R20): what each does once its code has reached COMMAND, and its meaning. -/

namespace Sys2Proof.Machine

/-- ARG0. -/
def State.arg0 (s : State) : Word := s.args[0]

/-- ARG1. -/
def State.arg1 (s : State) : Word := s.args[1]

/-- ARG2. -/
def State.arg2 (s : State) : Word := s.args[2]

/-- ARG3. -/
def State.arg3 (s : State) : Word := s.args[3]

/-- WATCH (R9, Table 8; R10). The new entry may answer an item kept in the batch (R79), so the arbiter looks again. -/
def State.cmdWatch (s : State) : State :=
  match argKey s.arg0 with
  | none => s.finish .badArgument
  | some k =>
    if !scheduleLegal (argPeriodCode s.arg1) (argPhase s.arg1) then s.finish .badArgument
    else if (s.find k).isSome then s.finish .duplicate
    else
      match s.freeWay k.bucket with
      | none => s.finish .bucketFull
      | some w =>
        let p := positionOf k.bucket w
        let e := s.newEntry k p (argPeriodCode s.arg1) (argPhase s.arg1) (argMask s.arg2) (argNoteFirst s.arg1)
        (({ s with table := insertEntry e s.table }).result .ok (numberWord p) 0#32 0#32).arbitrate k.link

/-- UNWATCH (R12). -/
def State.cmdUnwatch (s : State) : State :=
  match argKey s.arg0 with
  | none => s.finish .badArgument
  | some k =>
    match s.find k with
    | none => s.finish .notFound
    | some _ => (s.removeEntries (fun x => x == k)).finish .ok

/-- MODIFY (R14, R15). A REFUSED entry made PRIMING may let an item kept in the batch pass again, so the arbiter looks
again (R98). -/
def State.cmdModify (s : State) : State :=
  match argKey s.arg0 with
  | none => s.finish .badArgument
  | some k =>
    if !scheduleLegal (argPeriodCode s.arg1) (argPhase s.arg1) then s.finish .badArgument
    else
      match s.find k with
      | none => s.finish .notFound
      | some e =>
        ((s.keyEvent k (fun x =>
            (x.modified (argPeriodCode s.arg1) (argPhase s.arg1) (argMask s.arg2) (argNoteFirst s.arg1), []))).result
          .ok (numberWord e.pos) 0#32 0#32).arbitrate k.link

/-- The snapshot of an entry in RESULT1-RESULT3 (R16, Table 11). -/
def State.snapshot (s : State) (e : Entry) : State := s.result .ok e.inspect1 e.inspect2 (s.inspect3 e)

/-- INSPECT (R16). -/
def State.cmdInspect (s : State) : State :=
  match argKey s.arg0 with
  | none => s.finish .badArgument
  | some k =>
    match s.find k with
    | none => s.finish .notFound
    | some e => s.snapshot e

/-- ENUMERATE (R17): the table is held in ascending position, so the first entry at or above the start is the lowest. -/
def State.cmdEnumerate (s : State) : State :=
  if 511 < s.arg0.toNat then s.finish .badArgument
  else
    match s.table.find? (fun e => decide (s.arg0.toNat ≤ e.pos)) with
    | none => s.finish .notFound
    | some e => s.snapshot e

/-- PURGE (R18, R19). -/
def State.cmdPurge (s : State) : State :=
  match purgeSelects s.arg0 with
  | none => s.finish .badArgument
  | some p =>
    (s.removeEntries p).result .ok (numberWord (s.table.countP (fun e => p e.key))) 0#32 0#32

/-- The meaning of WATCH: code 01h written to COMMAND (R9, R10, R165). -/
def execWatch (s : State) : Host.Outcome State Fault Refusal := .next (s.onCommand 0x01#32 State.cmdWatch)

/-- The meaning of UNWATCH: code 02h written to COMMAND (R12, R165). -/
def execUnwatch (s : State) : Host.Outcome State Fault Refusal := .next (s.onCommand 0x02#32 State.cmdUnwatch)

/-- The meaning of MODIFY: code 03h written to COMMAND (R14, R15, R165). -/
def execModify (s : State) : Host.Outcome State Fault Refusal := .next (s.onCommand 0x03#32 State.cmdModify)

/-- The meaning of INSPECT: code 04h written to COMMAND (R16, R165). -/
def execInspect (s : State) : Host.Outcome State Fault Refusal := .next (s.onCommand 0x04#32 State.cmdInspect)

/-- The meaning of ENUMERATE: code 05h written to COMMAND (R17, R165). -/
def execEnumerate (s : State) : Host.Outcome State Fault Refusal := .next (s.onCommand 0x05#32 State.cmdEnumerate)

/-- The meaning of PURGE: code 06h written to COMMAND (R18, R19, R165). -/
def execPurge (s : State) : Host.Outcome State Fault Refusal := .next (s.onCommand 0x06#32 State.cmdPurge)

end Sys2Proof.Machine
end

