-- ==== Sys2Proof/Machine/StationCommands.lean ====
section
/-! DEFINITION. The three station commands (R132 to R134). -/

namespace Sys2Proof.Machine

/-- HOLD (R132): a hold with source HOST, of ARG1 slots or, for 0, indefinite. It replaces any hold the record held. -/
def State.cmdHold (s : State) : State :=
  match argRecord s.arg0 with
  | none => s.finish .badArgument
  | some (l, st) =>
    if 65535 < s.arg1.toNat then s.finish .badArgument
    else if (s.station l st).isMissing then s.finish .stationMissing
    else
      (s.updLink l (fun k => k.enterHeld st (k.station st)
        ⟨.host, if s.arg1 = 0#32 then none else some s.arg1.toNat⟩)).finish .ok

/-- RELEASE (R133). A write head or a kept batch item of the station may become eligible, so the arbiter looks again. -/
def State.cmdRelease (s : State) : State :=
  match argRecord s.arg0 with
  | none => s.finish .badArgument
  | some (l, st) =>
    if (s.station l st).isHeld then
      ((s.updLink l (fun k => k.setStation st (k.station st).afterHold)).finish .ok).arbitrate l
    else s.finish .ok

/-- FORGET (R134, R45). Entries made PRIMING may let items kept in the batch pass again, so the arbiter looks again. -/
def State.cmdForget (s : State) : State :=
  match argRecord s.arg0 with
  | none => s.finish .badArgument
  | some (l, st) =>
    if (s.station l st).isMissing then
      (((s.setStation l st StationRecord.reset).entryEvent (Entry.ofStation l st) Entry.onForget).finish .ok).arbitrate l
    else s.finish .notMissing

/-- The meaning of HOLD: code 10h written to COMMAND (R132, R165). -/
def execHold (s : State) : Host.Outcome State Fault Refusal := .next (s.onCommand 0x10#32 State.cmdHold)

/-- The meaning of RELEASE: code 11h written to COMMAND (R133, R165). -/
def execRelease (s : State) : Host.Outcome State Fault Refusal := .next (s.onCommand 0x11#32 State.cmdRelease)

/-- The meaning of FORGET: code 12h written to COMMAND (R134, R165). -/
def execForget (s : State) : Host.Outcome State Fault Refusal := .next (s.onCommand 0x12#32 State.cmdForget)

end Sys2Proof.Machine
end

