-- ==== Sys2Proof/Machine/LinkCommands.lean ====
section
/-! DEFINITION. The link commands LINK_RUN, LINK_STOP, LINK_RESET and LINK_CONFIG (R90 to R96), and SET_SLOT and
SET_POSITION (R84, R85). -/

namespace Sys2Proof.Machine

/-- The link column made RUNNING from OFF or HALTED, before the capture (R82, R89, R90). -/
def Link.runAfresh (k : Link) : Link :=
  { k with state := .running, haltReason := .none, blockedRun := 0, slotTimer := k.fullSlot, endedHolds := [] }

/-- LINK_RUN (R90). -/
def State.cmdLinkRun (s : State) : State :=
  match argLink s.arg0 with
  | none => s.finish .badArgument
  | some l =>
    match (s.link l).state with
    | .off | .halted => (((s.updLink l Link.runAfresh).recapture l).finish .ok).arbitrate l
    | .stopping =>
      (s.updLink l (fun k => { k with state := .running, slotTimer := k.slotTimer.resume })).finish .ok
    | .running => s.finish .ok

/-- LINK_STOP (R91). -/
def State.cmdLinkStop (s : State) : State :=
  match argLink s.arg0 with
  | none => s.finish .badArgument
  | some l =>
    match (s.link l).state with
    | .running =>
      (s.updLink l (fun k => if k.inFlight.isSome then k.enterStopping else k.enterHalted .hostStop)).finish .ok
    | .stopping | .halted | .off => s.finish .ok

/-- LINK_RESET (R94). -/
def State.cmdLinkReset (s : State) : State :=
  match argLink s.arg0 with
  | none => s.finish .badArgument
  | some l => (s.resetLink l).finish .ok

/-- Whether a link takes LINK_CONFIG and SET_POSITION: OFF or HALTED (R85, R96). -/
def LinkState.idle : LinkState → Bool
  | .off | .halted => true
  | .running | .stopping => false

/-- LINK_CONFIG (R96). -/
def State.cmdLinkConfig (s : State) : State :=
  match argLink s.arg0 with
  | none => s.finish .badArgument
  | some l =>
    if s.arg1.toNat < 3 ∨ 999 < s.arg1.toNat ∨ 7 < s.arg2.toNat ∨ s.arg3.toNat < 1 ∨ 15 < s.arg3.toNat then
      s.finish .badArgument
    else if !(s.link l).state.idle then s.finish .linkBusy
    else
      (s.updLink l (fun k =>
        { k with divider := s.arg1.toNat, retryLimit := s.arg2.toNat, missLimit := s.arg3.toNat })).finish .ok

/-- SET_SLOT (R84): the slot that runs keeps the length it began with. -/
def State.cmdSetSlot (s : State) : State :=
  match argLink s.arg0 with
  | none => s.finish .badArgument
  | some l =>
    if s.arg1.toNat < 4 ∨ 255 < s.arg1.toNat then s.finish .badArgument
    else (s.updLink l (fun k => { k with slotSetting := s.arg1.toNat })).finish .ok

/-- SET_POSITION (R85). -/
def State.cmdSetPosition (s : State) : State :=
  match argLink s.arg0 with
  | none => s.finish .badArgument
  | some l =>
    if h : s.arg1.toNat < 64 then
      if (s.link l).state.idle then (s.updLink l (fun k => { k with position := ⟨s.arg1.toNat, h⟩ })).finish .ok
      else s.finish .linkBusy
    else s.finish .badArgument

/-- The meaning of LINK_RUN: code 20h written to COMMAND (R90, R165). -/
def execLinkRun (s : State) : Host.Outcome State Fault Refusal := .next (s.onCommand 0x20#32 State.cmdLinkRun)

/-- The meaning of LINK_STOP: code 21h written to COMMAND (R91, R165). -/
def execLinkStop (s : State) : Host.Outcome State Fault Refusal := .next (s.onCommand 0x21#32 State.cmdLinkStop)

/-- The meaning of LINK_RESET: code 22h written to COMMAND (R94, R165). -/
def execLinkReset (s : State) : Host.Outcome State Fault Refusal := .next (s.onCommand 0x22#32 State.cmdLinkReset)

/-- The meaning of LINK_CONFIG: code 23h written to COMMAND (R96, R165). -/
def execLinkConfig (s : State) : Host.Outcome State Fault Refusal := .next (s.onCommand 0x23#32 State.cmdLinkConfig)

/-- The meaning of SET_SLOT: code 24h written to COMMAND (R84, R165). -/
def execSetSlot (s : State) : Host.Outcome State Fault Refusal := .next (s.onCommand 0x24#32 State.cmdSetSlot)

/-- The meaning of SET_POSITION: code 25h written to COMMAND (R85, R165). -/
def execSetPosition (s : State) : Host.Outcome State Fault Refusal :=
  .next (s.onCommand 0x25#32 State.cmdSetPosition)

end Sys2Proof.Machine
end

