-- ==== Sys2Proof/Machine/HostPort.lean ====
section
/-! DEFINITION. The host port (10): the routing of reads and writes, window writes (R138), lookups (R150), demand reads
(R154), TAKE (R56) and the writes to control words. -/

namespace Sys2Proof.Machine

/-! ## Window accesses -/

/-- A window write taken into the queue, and handed to the table and the arbiter (R138, R139). -/
def State.acceptWrite (s : State) (l : LinkNo) (d : Dest) (reg : RegNo) (data : Value) : State :=
  let queued := s.updLink l (fun k => { k with queue := k.queue ++ [⟨d, reg, data, false⟩] })
  let handed :=
    match d with
    | .station st => queued.keyEvent ⟨l, st, reg⟩ (Entry.onEnqueue data)
    | .broadcast => queued
  (handed.answer .done none).arbitrate l

/-- Whether a write goes to a station whose record is MISSING (R138, check 2). A broadcast names no record. -/
def State.toMissing (s : State) (l : LinkNo) : Dest → Bool
  | .station st => (s.station l st).isMissing
  | .broadcast => false

/-- WINDOW_WRITE at the write queue (R138, Table 63). -/
def State.windowWrite (s : State) (l : LinkNo) (d : Dest) (reg : RegNo) (data : Value) : State :=
  if (s.link l).state = .off then s.answer .error none
  else if s.toMissing l d then s.answer .error none
  else if Config.queueCapacity ≤ (s.link l).queue.length then s.answer .retry none
  else s.acceptWrite l d reg data

/-- A READY result taken out of the slot: a value is delivered with DONE, a failure with ERROR, and the slot becomes EMPTY
(R157). -/
def State.deliver (s : State) (k : Key) (result : Option Value) : State :=
  let emptied := s.updLink k.link (fun c => { c with demand := .empty })
  match result with
  | some v => emptied.answer .done (some (s.deliveredWord k v))
  | none => emptied.answer .error none

/-- An EMPTY slot filled with a key: WAITING, with a pick in the same event where the line is free (R155). -/
def State.fillDemand (s : State) (k : Key) : State :=
  ((s.updLink k.link (fun c => { c with demand := .waiting k })).answer .retry none).arbitrate k.link

/-- A demand read that found no READY result of its own: checks 3 to 7 of Table 70 (R154). -/
def State.startDemand (s : State) (k : Key) : State :=
  if (s.link k.link).state ≠ .running then s.answer .error none
  else if (s.station k.link k.station).leftAlone then s.answer .error none
  else
    match (s.link k.link).demand with
    | .empty => s.fillDemand k
    | .waiting _ | .inFlight _ | .ready _ _ _ => s.answer .retry none

/-- A demand read of a key (R154, Table 70). -/
def State.demandRead (s : State) (k : Key) : State :=
  match (s.link k.link).demand with
  | .ready key result _ => if key = k then s.deliver k result else s.startDemand k
  | .empty | .waiting _ | .inFlight _ => s.startDemand k

/-- A demand read by its window address; station 63 is refused (R154, check 2). No slot holds a key with station 63, so
check 1 does not apply to it. -/
def State.demandReadAt (s : State) (l : LinkNo) (d : Dest) (reg : RegNo) : State :=
  match d with
  | .station st => s.demandRead ⟨l, st, reg⟩
  | .broadcast => s.answer .error none

/-- A cached-window read: a lookup where the key is watched, a demand read otherwise (R150). -/
def State.cachedRead (s : State) (l : LinkNo) (d : Dest) (reg : RegNo) : State :=
  match d with
  | .station st =>
    match s.find ⟨l, st, reg⟩ with
    | some e => s.answer .done (some (s.lookupWord e))
    | none => s.demandRead ⟨l, st, reg⟩
  | .broadcast => s.demandReadAt l .broadcast reg

/-! ## The control block -/

/-- A read of TAKE (R56, R57). -/
def State.takeRead (s : State) : State :=
  match s.list with
  | [] => s.answer .done (some 0#32)
  | r :: rest =>
    ({ s with list := rest, taken := #v[r.taken1, s.taken2 r, taken3 rest.length] }.oldestLost).answer .done
      (some r.takeWord)

/-- A write to NOTICE_CTL (R60, R63). -/
def State.noticeCtlWrite (s : State) (data : Word) : State :=
  let threshold : BitVec 8 := data.extractLsb' 0 8
  let linger : BitVec 8 := data.extractLsb' 8 8
  if threshold = 0#8 then s.answer .error none
  else
    let set : State := { s with noticeEnable := data.getLsbD 16, threshold := threshold, linger := linger }
    let timed : State :=
      if linger = s.linger then set
      else if s.list.isEmpty then set.stopLinger
      else set.startLinger
    timed.answer .done none

/-- A write to LINK_EVENTS: the named events are acknowledged (R66). -/
def State.linkEventsWrite (s : State) (l : LinkNo) (data : Word) : State :=
  (s.updLink l (fun k => { k with events := k.events &&& ~~~(data.extractLsb' 0 6) })).answer .done none

/-- A write to LINK_ENABLES: the six enables are replaced (R67). -/
def State.linkEnablesWrite (s : State) (l : LinkNo) (data : Word) : State :=
  (s.updLink l (fun k => { k with enables := data.extractLsb' 0 6 })).answer .done none

/-- A write to an ARG word (R164). -/
def State.argWrite (s : State) (n : Fin 4) (data : Word) : State :=
  { s with args := s.args.set n.val data n.isLt }.answer .done none

/-- What the command with a code does; a value that is no code of Table 73 leaves UNKNOWN_COMMAND (R165). -/
def commandBody (code : Word) : State → State :=
  if code = 0x01#32 then State.cmdWatch
  else if code = 0x02#32 then State.cmdUnwatch
  else if code = 0x03#32 then State.cmdModify
  else if code = 0x04#32 then State.cmdInspect
  else if code = 0x05#32 then State.cmdEnumerate
  else if code = 0x06#32 then State.cmdPurge
  else if code = 0x10#32 then State.cmdHold
  else if code = 0x11#32 then State.cmdRelease
  else if code = 0x12#32 then State.cmdForget
  else if code = 0x20#32 then State.cmdLinkRun
  else if code = 0x21#32 then State.cmdLinkStop
  else if code = 0x22#32 then State.cmdLinkReset
  else if code = 0x23#32 then State.cmdLinkConfig
  else if code = 0x24#32 then State.cmdSetSlot
  else if code = 0x25#32 then State.cmdSetPosition
  else fun s => s.finish .unknownCommand

/-- A write to a control-block word (Table 72). A write to a read-only word ends ERROR. -/
def State.writeControl (s : State) (w : ControlWord) (data : Word) : State :=
  match w with
  | .command => s.onCommand data (commandBody data)
  | .arg n => s.argWrite n data
  | .noticeCtl => s.noticeCtlWrite data
  | .linkEvents l => s.linkEventsWrite l data
  | .linkEnables l => s.linkEnablesWrite l data
  | .ident | .result _ | .take | .taken _ | .listStatus | .linkStatus _ | .faultFirst _ | .faultSecond _
  | .stationView _ _ => s.answer .error none

/-! ## Routing (R162) -/

/-- A host write (R162): refused by its form, or routed by its address. -/
def State.hostWrite (s : State) (a : HostAddr) (be : ByteEnables) (data : Word) : State :=
  if s.rstLow || malformedAccess a be then s.answer .error none
  else
    match regionOf a with
    | .cached | .direct => s.windowWrite (windowLink a) (windowDest a) (windowRegister a) (data.extractLsb' 0 16)
    | .control =>
      match controlWordAt a with
      | some w => s.writeControl w data
      | none => s.answer .error none

/-- A host read (R162): refused by its form, or routed by its address. -/
def State.hostRead (s : State) (a : HostAddr) (be : ByteEnables) : State :=
  if s.rstLow || malformedAccess a be then s.answer .error none
  else
    match regionOf a with
    | .cached => s.cachedRead (windowLink a) (windowDest a) (windowRegister a)
    | .direct => s.demandReadAt (windowLink a) (windowDest a) (windowRegister a)
    | .control =>
      match controlWordAt a with
      | some .take => s.takeRead
      | some w => s.answer .done (some (s.readControl w))
      | none => s.answer .error none

/-! ## Meanings -/

/-- The meaning of UNKNOWN_COMMAND: a value written to COMMAND (R165; notes/assumptions/12.md). -/
def execUnknownCommand (value : Word) (s : State) : Host.Outcome State Fault Refusal :=
  .next (s.onCommand value (commandBody value))

/-- The meaning of WINDOW_WRITE (R138, R162). -/
def execWindowWrite (a : HostAddr) (be : ByteEnables) (data : Word) (s : State) : Host.Outcome State Fault Refusal :=
  .next (s.hostWrite a be data)

/-- The meaning of LOOKUP: a host read, which the port routes by its address (R150, R162; notes/assumptions/11.md). -/
def execLookup (a : HostAddr) (be : ByteEnables) (s : State) : Host.Outcome State Fault Refusal :=
  .next (s.hostRead a be)

/-- The meaning of DEMAND_READ: a host read, which the port routes by its address (R154, R162;
notes/assumptions/11.md). -/
def execDemandRead (a : HostAddr) (be : ByteEnables) (s : State) : Host.Outcome State Fault Refusal :=
  .next (s.hostRead a be)

/-- The meaning of TAKE: a host read of the word TAKE (R56). -/
def execTake (be : ByteEnables) (s : State) : Host.Outcome State Fault Refusal := .next (s.hostRead takeAddr be)

/-- The meaning of NOTICE_CTL_WRITE: a host write to NOTICE_CTL (R60, R63). -/
def execNoticeCtlWrite (be : ByteEnables) (data : Word) (s : State) : Host.Outcome State Fault Refusal :=
  .next (s.hostWrite noticeCtlAddr be data)

/-- The meaning of LINK_EVENTS_WRITE: a host write to LINK_EVENTS of a link (R66). -/
def execLinkEventsWrite (l : LinkNo) (be : ByteEnables) (data : Word) (s : State) :
    Host.Outcome State Fault Refusal :=
  .next (s.hostWrite (linkEventsAddr l) be data)

/-- The meaning of LINK_ENABLES_WRITE: a host write to LINK_ENABLES of a link (R67). -/
def execLinkEnablesWrite (l : LinkNo) (be : ByteEnables) (data : Word) (s : State) :
    Host.Outcome State Fault Refusal :=
  .next (s.hostWrite (linkEnablesAddr l) be data)

/-- The meaning of REGISTER_WRITE: a host write at an address (R162, R164). -/
def execRegisterWrite (a : HostAddr) (be : ByteEnables) (data : Word) (s : State) :
    Host.Outcome State Fault Refusal :=
  .next (s.hostWrite a be data)

end Sys2Proof.Machine
end

