-- ==== Sys2Proof/Machine/Events.lean ====
section
/-! DEFINITION. The events that no host access makes: the reset pin, the ends of timers, and what happens on the lines. -/

namespace Sys2Proof.Machine

/-- RST_N goes low: every block takes its pin-reset state, transactions are abandoned and the lines idle (R106, R120).
The queue of commands, the levels to come on the lines and the counter of free values are the model's and stay. -/
def State.pinLow (s : State) : State :=
  { State.reset with pending := s.pending, sld := s.sld, choices := s.choices, rstLow := true }

/-- RST_N rises: the quiet time runs on every line interface (R120). Without a fall before it there is no rise
(notes/assumptions/2.md). -/
def State.pinHigh (s : State) : State :=
  if s.rstLow then { s with rstLow := false, links := s.links.map (fun k => { k with line := LineState.reset }) }
  else s

/-- The meaning of PIN_RESET (R106). -/
def execPinReset (s : State) : Host.Outcome State Fault Refusal := .next s.pinLow

/-- The meaning of PIN_RESET_RELEASE (R120). -/
def execPinResetRelease (s : State) : Host.Outcome State Fault Refusal := .next s.pinHigh

/-- The meaning of SLOT_TICK (R72). -/
def execSlotTick (l : LinkNo) (s : State) : Host.Outcome State Fault Refusal := .next (s.slotTick l)

/-- The meaning of HOLD_EXPIRY (R131). -/
def execHoldExpiry (l : LinkNo) (st : StationNo) (s : State) : Host.Outcome State Fault Refusal :=
  .next (s.holdExpiry l st)

/-- The meaning of DEMAND_EXPIRY (R159). -/
def execDemandExpiry (l : LinkNo) (s : State) : Host.Outcome State Fault Refusal := .next (s.demandExpiry l)

/-- The meaning of LINGER_EXPIRY (R62). -/
def execLingerExpiry (s : State) : Host.Outcome State Fault Refusal := .next s.lingerExpiry

/-- The meaning of GAP_END (R114). -/
def execGapEnd (l : LinkNo) (s : State) : Host.Outcome State Fault Refusal := .next (s.restEnd l .gap)

/-- The meaning of QUIET_TIME_END (R120). -/
def execQuietTimeEnd (l : LinkNo) (s : State) : Host.Outcome State Fault Refusal := .next (s.restEnd l .quiet)

/-- The meaning of ATTEMPT_END (R113). -/
def execAttemptEnd (l : LinkNo) (sld : List Bool) (s : State) : Host.Outcome State Fault Refusal :=
  .next (s.attemptEnd l sld)

/-- The meaning of REQUEST_SENT_WHOLE (R111). -/
def execRequestSentWhole (l : LinkNo) (s : State) : Host.Outcome State Fault Refusal := .next (s.requestSentWhole l)

/-! ## The clock: one REFCLK period (notes/assumptions/1.md) -/

/-- The timers that run out by themselves: the line and the slot of each link, and linger. -/
inductive TimerId where
  | line (l : LinkNo)
  | slot (l : LinkNo)
  | linger
  deriving DecidableEq, Repr

/-- Every timer of the part. -/
def TimerId.all : List TimerId :=
  [.line 0, .slot 0, .line 1, .slot 1, .line 2, .slot 2, .line 3, .slot 3, .linger]

/-- The number of a timer, to rank it among those that run out together. -/
def TimerId.number : TimerId → Nat
  | .line l => 2 * l.val
  | .slot l => 2 * l.val + 1
  | .linger => 8

/-- A timer whose unit is `period` REFCLK periods has one such period left. -/
def Timer.last (t : Timer) (period : Nat) : Bool := decide (t.left ≤ 1) && decide (period ≤ t.sub + 1)

/-- One REFCLK period of a running timer. DESIGN CHOICE: the REFCLK periods gone of the unit under way count on under a new
divider, so a LINK_CONFIG taken while a quiet time or a gap runs lengthens or shortens the bit time already begun; R120
says that what is left is measured in the new bit time and not how that bit time counts (notes/assumptions/21.md).
Unsafe. -/
def Timer.advance (t : Timer) (period : Nat) : Timer :=
  if period ≤ t.sub + 1 then ⟨t.left - 1, 0⟩ else ⟨t.left, t.sub + 1⟩

/-- A bit time is D + 1 REFCLK periods (R70, R107). -/
def Link.bitPeriod (k : Link) : Nat := k.divider + 1

/-- Whether the line timer runs: a rest, or an attempt under way. -/
def Link.lineTimed (k : Link) : Bool := k.line.rest != .none || k.line.underWay

/-- A bit time of an attempt under way ends in this REFCLK period. -/
def Link.attemptBitEnds (k : Link) : Bool :=
  k.line.rest == .none && k.line.underWay && decide (k.bitPeriod ≤ k.line.timer.sub + 1)

/-- A bit time of the request frame ends in which the part leaves SLD released and a station holds it low (R111). -/
def Link.contends (k : Link) (level : Bool) : Bool :=
  k.attemptBitEnds && k.line.phase == .request && !k.sldDrivenLow && !level

/-- A phase of the line ends in this REFCLK period: its timer runs out, or the request is contended. -/
def Link.lineDue (k : Link) (level : Bool) : Bool :=
  (k.lineTimed && k.line.timer.last k.bitPeriod) || k.contends level

/-- The slot timer runs out in this REFCLK period. -/
def Link.slotDue (k : Link) : Bool :=
  match k.slotTimer with
  | .running t => t.last k.bitPeriod
  | .stopped | .paused _ => false

/-- A timer runs out in this REFCLK period. -/
def State.due (s : State) : TimerId → Bool
  | .line l => (s.link l).lineDue (s.level l)
  | .slot l => (s.link l).slotDue
  | .linger =>
    match s.lingerTimer with
    | some t => t.last Config.lingerUnit
    | none => false

/-- One REFCLK period of a line no phase of which ends: at the end of a bit time of the reply window its level is
gathered (R108). -/
def Link.lineAdvance (k : Link) (level : Bool) : Link :=
  if k.lineTimed && !k.lineDue level then
    { k with line := { k.line with
        timer := k.line.timer.advance k.bitPeriod
        reply := if k.attemptBitEnds && k.line.phase == .reply then k.line.reply ++ [level] else k.line.reply } }
  else k

/-- One REFCLK period of a slot timer that does not run out. -/
def Link.slotAdvance (k : Link) : Link :=
  match k.slotTimer with
  | .running t => if k.slotDue then k else { k with slotTimer := .running (t.advance k.bitPeriod) }
  | .stopped | .paused _ => k

/-- One REFCLK period of every timer that does not run out in it. The levels of the bit times that end in it are gone. -/
def State.advanceTimers (s : State) : State :=
  { s with
    links := Vector.ofFn (fun l => ((s.link l).lineAdvance (s.level l)).slotAdvance)
    sld := Vector.ofFn (fun l => if (s.link l).attemptBitEnds then s.sld[l].tail else s.sld[l])
    lingerTimer :=
      match s.lingerTimer with
      | some t => some (if t.last Config.lingerUnit then t else t.advance Config.lingerUnit)
      | none => none }

/-- A phase of a line ends, in a bit time in which the stations leave `level` on SLD: the rest ends; the request ends at
contention, or has been sent whole; the reply window opens; the code bits ask for more of it; or the attempt ends (R111,
R112, R114, R118, R120). -/
def State.lineEnds (s : State) (l : LinkNo) (level : Bool) : State :=
  let k := s.link l
  match k.line.rest, k.inFlight with
  | .gap, _ => s.restEnd l .gap
  | .quiet, _ => s.restEnd l .quiet
  | .none, none => s
  | .none, some tx =>
    match k.line.phase with
    | .request =>
      if k.contends level then s.attemptEnd l (List.replicate (tx.frameBits - k.line.timer.left) true ++ [false])
      else if tx.isBroadcast then s.attemptEnd l []
      else s.requestSentWhole l
    | .turnaround => s.updLink l (fun k => { k with line := k.line.openWindow })
    | .reply =>
      let bits := k.line.reply ++ [level]
      let window := ({ k.line with reply := bits } : LineState).windowBits tx.isRead
      if bits.length < window then
        s.updLink l (fun k => { k with line := k.line.lengthen bits (window - bits.length) })
      else s.attemptEnd l (List.replicate (tx.frameBits + Config.turnaroundBits) true ++ bits)
    | .idle | .wait | .gap => s

/-- What the end of a timer does, by the levels on the lines in the period that ends. An end of the slot or of linger
does nothing where another end in the same period has restarted or stopped the timer (R62, R83). -/
def State.fire (level : LinkNo → Bool) (s : State) : TimerId → State
  | .line l => s.lineEnds l (level l)
  | .slot l => if s.due (.slot l) then s.slotTick l else s
  | .linger => if s.due .linger then s.lingerExpiry else s

/-- A timer put in its place by rank. -/
def insertTimer (rank : TimerId → Nat) (t : TimerId) : List TimerId → List TimerId
  | [] => [t]
  | x :: xs => if rank t ≤ rank x then t :: x :: xs else x :: insertTimer rank t xs

/-- One REFCLK period of 20 ns in which no command reaches the part. Timers that run out in the same period take effect
in a free order (notes/assumptions/4.md). -/
def State.clock (s : State) : State :=
  if s.rstLow then s
  else
    match TimerId.all.filter s.due with
    | [] => s.advanceTimers
    | [t] => s.advanceTimers.fire s.level t
    | ts =>
      (ts.foldr (insertTimer (fun t => Config.tieRank s.choices t.number)) []).foldl (State.fire s.level)
        { s.advanceTimers with choices := s.choices + 1 }

end Sys2Proof.Machine
end

