-- ==== Sys2Proof/Machine/Dispatch.lean ====
section
/-! DEFINITION. One arm per command of spec/opcode_table.json. -/

namespace Sys2Proof.Machine

/-- The effect of a command on everything but the queue of commands. -/
def exec (i : Instr) (s : State) : Host.Outcome State Fault Refusal :=
  match i with
  | .watch => Sys2Proof.Machine.execWatch s
  | .unwatch => Sys2Proof.Machine.execUnwatch s
  | .modify => Sys2Proof.Machine.execModify s
  | .inspect => Sys2Proof.Machine.execInspect s
  | .enumerate => Sys2Proof.Machine.execEnumerate s
  | .purge => Sys2Proof.Machine.execPurge s
  | .hold => Sys2Proof.Machine.execHold s
  | .release => Sys2Proof.Machine.execRelease s
  | .forget => Sys2Proof.Machine.execForget s
  | .linkRun => Sys2Proof.Machine.execLinkRun s
  | .linkStop => Sys2Proof.Machine.execLinkStop s
  | .linkReset => Sys2Proof.Machine.execLinkReset s
  | .linkConfig => Sys2Proof.Machine.execLinkConfig s
  | .setSlot => Sys2Proof.Machine.execSetSlot s
  | .setPosition => Sys2Proof.Machine.execSetPosition s
  | .unknownCommand value => Sys2Proof.Machine.execUnknownCommand value s
  | .windowWrite addr be data => Sys2Proof.Machine.execWindowWrite addr be data s
  | .lookup addr be => Sys2Proof.Machine.execLookup addr be s
  | .demandRead addr be => Sys2Proof.Machine.execDemandRead addr be s
  | .take be => Sys2Proof.Machine.execTake be s
  | .noticeCtlWrite be data => Sys2Proof.Machine.execNoticeCtlWrite be data s
  | .linkEventsWrite link be data => Sys2Proof.Machine.execLinkEventsWrite link be data s
  | .linkEnablesWrite link be data => Sys2Proof.Machine.execLinkEnablesWrite link be data s
  | .registerWrite addr be data => Sys2Proof.Machine.execRegisterWrite addr be data s
  | .pinReset => Sys2Proof.Machine.execPinReset s
  | .pinResetRelease => Sys2Proof.Machine.execPinResetRelease s
  | .slotTick link => Sys2Proof.Machine.execSlotTick link s
  | .holdExpiry link st => Sys2Proof.Machine.execHoldExpiry link st s
  | .demandExpiry link => Sys2Proof.Machine.execDemandExpiry link s
  | .lingerExpiry => Sys2Proof.Machine.execLingerExpiry s
  | .gapEnd link => Sys2Proof.Machine.execGapEnd link s
  | .quietTimeEnd link => Sys2Proof.Machine.execQuietTimeEnd link s
  | .attemptEnd link sld => Sys2Proof.Machine.execAttemptEnd link sld s
  | .requestSentWhole link => Sys2Proof.Machine.execRequestSentWhole link s

end Sys2Proof.Machine
end

