-- ==== Sys2Proof/Safety.lean ====
section
/-! DEFINITION. What a sound state of the part is, block by block, in the words of the spec: the laws the statements take
as premises and say that every step keeps. -/

namespace Sys2Proof.Machine

/-! ## The watch table, the change list and the notice unit -/

/-- The laws of the watch table (R1, R4, R9, R21): entries stand in ascending position, each in the bucket its key
selects; no key stands twice; schedules are legal and ages at most 255. -/
def State.TableSound (s : State) : Prop :=
  s.table.Pairwise (fun a b => a.pos < b.pos) ∧
  s.table.Pairwise (fun a b => a.key ≠ b.key) ∧
  ∀ e ∈ s.table, e.pos / 4 = e.key.bucket ∧ scheduleLegal e.periodCode e.phase = true ∧ e.age ≤ 255

/-- The laws of the change list (R50, R51): at most one record per entry, records only of entries in the table, each with
a reason and a count of 1-15. -/
def State.ListSound (s : State) : Prop :=
  s.list.Pairwise (fun a b => a.key ≠ b.key) ∧
  ∀ r ∈ s.list, (s.find r.key).isSome = true ∧ r.reasons ≠ 0#8 ∧ 1 ≤ r.count ∧ r.count ≤ 15

/-- The laws of the notice unit (R60, R61, R62): the threshold is not 0; over an empty list the timer is stopped and the
lingered indicator clear; a running timer has 1 to linger units left and the lingered indicator clear. -/
def State.NoticeSound (s : State) : Prop :=
  s.threshold ≠ 0#8 ∧
  (s.list = [] → s.lingerTimer = none ∧ s.lingered = false) ∧
  ∀ t, s.lingerTimer = some t → s.lingered = false ∧ 1 ≤ t.left ∧ t.left ≤ s.linger.toNat

/-- The table, its list and the notice unit are sound. -/
def State.MirrorSound (s : State) : Prop := s.TableSound ∧ s.ListSound ∧ s.NoticeSound

/-! ## The link engine and the line interface -/

/-- The settings of a link are in their ranges (R84, R96). -/
def Link.ConfigSound (k : Link) : Prop :=
  3 ≤ k.divider ∧ k.divider ≤ 999 ∧ k.retryLimit ≤ 7 ∧ 1 ≤ k.missLimit ∧ k.missLimit ≤ 15 ∧ 4 ≤ k.slotSetting ∧
  k.slotSetting ≤ 255

/-- The slot timer agrees with the link state (R71). -/
def Link.SlotSound (k : Link) : Prop :=
  match k.slotTimer with
  | .stopped => k.state = .off ∨ k.state = .halted
  | .running _ => k.state = .running
  | .paused _ => k.state = .stopping

/-- The line interface agrees with the transaction in flight (R88, R108, R111, R114): IDLE exactly without one, the
attempt number in its range, a rest in WAIT and GAP only, an attempt to follow in GAP, the sent-whole indicator from the
last check bit on, reply bits in REPLY only and there as many, with those to come, as the window holds (R112). That the
attempt number in GAP is at most the retry limit is the model's reading of R114 (notes/assumptions/19.md); that the
indicator is clear in IDLE, and that no reply bit is held outside REPLY, is its choice (notes/assumptions/22.md). -/
def Link.LineSound (k : Link) : Prop :=
  (k.inFlight = none ↔ k.line.phase = .idle) ∧
  (k.line.phase = .idle → k.line.attempt = 0) ∧
  (k.line.phase ≠ .idle → 1 ≤ k.line.attempt ∧ k.line.attempt ≤ k.retryLimit + 1) ∧
  (k.line.phase = .wait → k.line.rest ≠ .none) ∧
  (k.line.phase = .gap → k.line.rest = .gap ∧ k.line.attempt ≤ k.retryLimit) ∧
  (k.line.underWay = true → k.line.rest = .none) ∧
  ((k.line.phase = .turnaround ∨ k.line.phase = .reply) → k.line.sentWhole = true) ∧
  ((k.line.phase = .idle ∨ k.line.phase = .wait ∨ k.line.phase = .request) → k.line.sentWhole = false) ∧
  (k.line.phase ≠ .reply → k.line.reply = []) ∧
  (k.line.phase = .reply → 1 ≤ k.line.timer.left ∧
    ∀ tx, k.inFlight = some tx → k.line.reply.length + k.line.timer.left = k.line.windowBits tx.isRead)

/-- The laws of a link engine (R71, R88, R96, R104, R108, R112): a transaction in flight while STOPPING and none while OFF or
HALTED, and a blocked run below 4 on a link that runs. -/
def Link.EngineSound (k : Link) : Prop :=
  k.ConfigSound ∧ k.SlotSound ∧ k.LineSound ∧
  ((k.state = .off ∨ k.state = .halted) → k.inFlight = none) ∧
  (k.state = .stopping → k.inFlight ≠ none) ∧
  k.blockedRun ≤ 4 ∧
  ((k.state = .running ∨ k.state = .stopping) → k.blockedRun < 4)

/-- Every link engine is sound; while RST_N is low every link is OFF (R106). -/
def State.EngineSound (s : State) : Prop :=
  ∀ l, (s.link l).EngineSound ∧ (s.rstLow = true → (s.link l).state = .off)

/-! ## The stations, the write queue and the demand slot of a link -/

/-- The laws of a station record (R123, R126, R131, R135): counts in range; a finite hold has 1-65535 slots left; a hold
with source STATION is finite and its station has been seen; UNSEEN has no reply since, PRESENT has one. -/
def StationRecord.Sound (r : StationRecord) : Prop :=
  r.misses ≤ 15 ∧
  match r.standing with
  | .unseen => r.seen = false
  | .present => r.seen = true
  | .missing => True
  | .held ⟨.station, some n⟩ => r.seen = true ∧ 1 ≤ n ∧ n ≤ 65535
  | .held ⟨.station, none⟩ => False
  | .held ⟨.host, some n⟩ => 1 ≤ n ∧ n ≤ 65535
  | .held ⟨.host, none⟩ => True

/-- The write record that a transaction in flight must have at the head of its queue, if it is a write (R141). -/
def Transaction.record? : Transaction → Option WriteRecord
  | .write st reg d => some ⟨.station st, reg, d, true⟩
  | .broadcast reg d => some ⟨.broadcast, reg, d, true⟩
  | .poll _ _ | .probe _ | .demandRead _ _ => none

/-- The laws of a write queue (R137, R138, R141): at most 16 records; none for a MISSING station; the in-flight indicator
is set on the head alone, and exactly while the transaction in flight is the write of that head. -/
def Link.QueueSound (k : Link) : Prop :=
  k.queue.length ≤ Config.queueCapacity ∧
  (∀ r ∈ k.queue, ∀ st, r.dest = .station st → (k.station st).isMissing = false) ∧
  (∀ r ∈ k.queue.tail, r.inFlight = false) ∧
  (∀ r ∈ k.queue, r.inFlight = true → k.inFlight.bind Transaction.record? = some r) ∧
  (∀ r, k.inFlight.bind Transaction.record? = some r → k.queue.head? = some r)

/-- The laws of the demand slot of link `l` (R153 to R158, R160): its key carries its link; WAITING only while RUNNING and
for a station that is not left alone; IN_FLIGHT exactly while the slot's read is the transaction in flight; a READY
result has 1-16 slots left. -/
def Link.DemandSound (k : Link) (l : LinkNo) : Prop :=
  (∀ key, k.demand = .waiting key →
    key.link = l ∧ k.state = .running ∧ (k.station key.station).leftAlone = false) ∧
  (∀ key, k.demand = .inFlight key → key.link = l ∧ k.inFlight = some (.demandRead key.station key.register)) ∧
  (∀ st reg, k.inFlight = some (.demandRead st reg) → k.demand = .inFlight ⟨l, st, reg⟩) ∧
  (∀ key v n, k.demand = .ready key v n → key.link = l ∧ 1 ≤ n ∧ n ≤ Config.demandLifetime)

/-- What holds of the station of the transaction in flight (R99, R100): only a probe is addressed to a MISSING station,
and a hold that came after the issue is the host's. -/
def Link.AddressSound (k : Link) : Prop :=
  ∀ tx st, k.inFlight = some tx → tx.station? = some st →
    ((k.station st).isMissing = true → tx.isProbe = true) ∧
    ∀ h, (k.station st).standing = .held h → h.source = .host

/-- The laws of one link column (R88, R123, R137, R153): what an OFF link has had cleared besides. -/
def Link.ColumnSound (k : Link) (l : LinkNo) : Prop :=
  (∀ st, (k.station st).Sound) ∧ k.QueueSound ∧ k.DemandSound l ∧ k.AddressSound ∧
  ((k.state = .off ∨ k.state = .halted) → k.inFlight = none) ∧
  (k.state = .off → k.queue = [] ∧ ∀ st, (k.station st).isMissing = false)

/-- Every link column is sound. -/
def State.ColumnSound (s : State) : Prop := ∀ l, (s.link l).ColumnSound l

/-! ## Laws across blocks -/

/-- The table agrees with the queues and the station tables (R28, R42): every pending count is the number of records of the
key, an entry is WRITING exactly when pending is nonzero, and ORPHANED exactly when its station is MISSING. -/
def State.AccountSound (s : State) : Prop :=
  ∀ e ∈ s.table,
    e.pending = (s.link e.key.link).queuedFor e.key.station e.key.register ∧
    (e.state = .writing ↔ e.pending ≠ 0) ∧
    (e.state = .orphaned ↔ (s.station e.key.link e.key.station).isMissing = true)

/-- The law of the arbiter (R98): while a link is RUNNING with the line free, no group is eligible. The polls of a batch
name keys of their link (R69), and a STOPPING link has a transaction in flight (R88). -/
def State.ArbiterSound (s : State) : Prop :=
  ∀ l,
    ((s.link l).state = .running → (s.link l).inFlight = none → ∀ g, s.eligible l g = false) ∧
    ((s.link l).state = .stopping → (s.link l).inFlight ≠ none) ∧
    ∀ k, BatchItem.poll k ∈ (s.link l).batch → k.link = l

/-- Every law together. -/
def State.Sound (s : State) : Prop :=
  s.MirrorSound ∧ s.EngineSound ∧ s.ColumnSound ∧ s.AccountSound ∧ s.ArbiterSound

end Sys2Proof.Machine
end

