-- ==== Sys2Proof/WellFormed.lean ====
section
/-! DEFINITION. Which commands stand for the row they name: the operands a row leaves to the sender must fit the row. -/

namespace Sys2Proof

/-- The codes of Table 73 (R165). -/
def commandCodes : List Word :=
  [0x01#32, 0x02#32, 0x03#32, 0x04#32, 0x05#32, 0x06#32, 0x10#32, 0x11#32, 0x12#32, 0x20#32, 0x21#32, 0x22#32, 0x23#32,
    0x24#32, 0x25#32]

/-- A control-block word that has a row of its own for its writes (R60, R66, R67, R165). -/
def hasWriteRow (a : HostAddr) : Bool :=
  match Machine.controlWordAt a with
  | some .command | some .noticeCtl | some (.linkEvents _) | some (.linkEnables _) => true
  | some _ | none => false

/-- The longest attempt in bit times: a WRITE request of 46, a turnaround of 2 and a window of 19 (Table 53). -/
def longestAttempt : Nat := 67

/-- A well-formed command: UNKNOWN_COMMAND carries no code; WINDOW_WRITE and DEMAND_READ a window address and LOOKUP a
cached-window one; REGISTER_WRITE a control-block address whose word has no row of its own; ATTEMPT_END no more bit
times than an attempt has. The other rows' operands are of types that hold legal values only. -/
def WellFormed : Instr → Bool
  | .unknownCommand v => !commandCodes.contains v
  | .windowWrite a _ _ => Machine.regionOf a != .control
  | .lookup a _ => Machine.regionOf a == .cached
  | .demandRead a _ => Machine.regionOf a != .control
  | .registerWrite a _ _ => Machine.regionOf a == .control && !hasWriteRow a
  | .attemptEnd _ sld => decide (sld.length ≤ longestAttempt)
  | .watch | .unwatch | .modify | .inspect | .enumerate | .purge | .hold | .release | .forget | .linkRun | .linkStop
  | .linkReset | .linkConfig | .setSlot | .setPosition | .take _ | .noticeCtlWrite _ _ | .linkEventsWrite _ _ _
  | .linkEnablesWrite _ _ _ | .pinReset | .pinResetRelease | .slotTick _ | .holdExpiry _ _ | .demandExpiry _
  | .lingerExpiry | .gapEnd _ | .quietTimeEnd _ | .requestSentWhole _ => true

end Sys2Proof
end

