-- ==== Sys2Proof/Certificates/Slice0/Obligations.lean ====
section
/-! DEFINITION. The statements for the provers, and the few words they are written in. The words restate the spec's tables
by bit numbers and addresses, apart from the definitions of the model that decode them. -/

namespace Sys2Proof.Machine

/-! ## Words of the statements -/

/-- The number in bits `hi` to `lo` of a word, as the spec's tables give fields. -/
def field (w : Word) (hi lo : Nat) : Nat := w.toNat / 2 ^ lo % 2 ^ (hi + 1 - lo)

/-- An argument word names a link (Table 76). -/
abbrev NamesLink (w : Word) (l : LinkNo) : Prop := field w 19 16 = l.val

/-- An argument word names a station record (Table 76). -/
abbrev NamesRecord (w : Word) (l : LinkNo) (st : StationNo) : Prop := field w 19 16 = l.val ∧ field w 13 8 = st.val

/-- An argument word names a key (Table 76). -/
abbrev NamesKey (w : Word) (k : Key) : Prop := NamesRecord w k.link k.station ∧ field w 7 0 = k.register.toNat

/-- An argument word names a schedule and the NOTE_FIRST option (Table 76). -/
abbrev NamesSchedule (w : Word) (code : Fin 8) (phase : Fin 64) (noteFirst : Bool) : Prop :=
  field w 2 0 = code.val ∧ field w 13 8 = phase.val ∧ field w 16 16 = noteFirst.toNat

/-- A schedule that check 3 of Table 8 passes (R9, Table 7). -/
abbrev LegalSchedule (code : Fin 8) (phase : Fin 64) : Prop :=
  (code.val = 0 → phase.val = 0) ∧ (1 ≤ code.val → phase.val < 2 ^ (code.val - 1))

/-- The address of a register in a window that begins at `base` (R163). -/
def windowAddr (base : Nat) (l : LinkNo) (n : Nat) (reg : RegNo) : HostAddr :=
  BitVec.ofNat 20 (base + l.val * 0x10000 + n * 0x400 + reg.toNat * 4)

/-- The address of a control-block word (Table 72). -/
def ControlWord.address : ControlWord → Nat
  | .ident => 0x80000
  | .command => 0x80004
  | .arg n => 0x80010 + n.val * 4
  | .result n => 0x80020 + n.val * 4
  | .take => 0x80030
  | .taken n => 0x80034 + n.val * 4
  | .listStatus => 0x80040
  | .noticeCtl => 0x80044
  | .linkStatus l => 0x80100 + l.val * 0x20
  | .linkEvents l => 0x80104 + l.val * 0x20
  | .linkEnables l => 0x80108 + l.val * 0x20
  | .faultFirst l => 0x8010C + l.val * 0x20
  | .faultSecond l => 0x80110 + l.val * 0x20
  | .stationView l n => 0x80400 + l.val * 0x100 + n.toNat * 4

/-- Table 72 marks the word "read, write". -/
def ControlWord.writable : ControlWord → Bool
  | .command | .arg _ | .noticeCtl | .linkEvents _ | .linkEnables _ => true
  | .ident | .result _ | .take | .taken _ | .listStatus | .linkStatus _ | .faultFirst _ | .faultSecond _
  | .stationView _ _ => false

/-- The host access a command of the table stands for, if it is one: its address and byte enables. -/
def accessOf : Instr → Option (HostAddr × ByteEnables)
  | .watch | .unwatch | .modify | .inspect | .enumerate | .purge | .hold | .release | .forget | .linkRun | .linkStop
  | .linkReset | .linkConfig | .setSlot | .setPosition | .unknownCommand _ => some (0x80004#20, 0xF#4)
  | .windowWrite a be _ | .lookup a be | .demandRead a be | .registerWrite a be _ => some (a, be)
  | .take be => some (0x80030#20, be)
  | .noticeCtlWrite be _ => some (0x80044#20, be)
  | .linkEventsWrite l be _ => some (BitVec.ofNat 20 (0x80104 + l.val * 0x20), be)
  | .linkEnablesWrite l be _ => some (BitVec.ofNat 20 (0x80108 + l.val * 0x20), be)
  | .pinReset | .pinResetRelease | .slotTick _ | .holdExpiry _ _ | .demandExpiry _ | .lingerExpiry | .gapEnd _
  | .quietTimeEnd _ | .attemptEnd _ _ | .requestSentWhole _ => none

/-- The code of an entry state (Table 16). -/
def stateCode : EntryState → Nat
  | .valid => 0
  | .priming => 1
  | .writing => 2
  | .settling => 3
  | .doubtful => 4
  | .refused => 5
  | .orphaned => 6

/-- The result codes as RESULT0 holds them (R165). -/
def resultWord : ResultCode → Word
  | .ok => 0#32
  | .notFound => 1#32
  | .duplicate => 2#32
  | .bucketFull => 3#32
  | .badArgument => 4#32
  | .linkBusy => 5#32
  | .stationMissing => 6#32
  | .notMissing => 7#32
  | .unknownCommand => 8#32

/-- The place of a reason in its set, which TAKEN1 shows from bit 16 on (Table 77). -/
def reasonPlace : Reason → Nat
  | .changed => 0
  | .first => 1
  | .writeFailed => 2
  | .writeUnknown => 3
  | .pollFailed => 4
  | .refused => 5
  | .orphaned => 6
  | .recovered => 7

/-- The commands of Table 73 with their codes. -/
def commandTable : List (Instr × Word) :=
  [(.watch, 0x01#32), (.unwatch, 0x02#32), (.modify, 0x03#32), (.inspect, 0x04#32), (.enumerate, 0x05#32),
    (.purge, 0x06#32), (.hold, 0x10#32), (.release, 0x11#32), (.forget, 0x12#32), (.linkRun, 0x20#32),
    (.linkStop, 0x21#32), (.linkReset, 0x22#32), (.linkConfig, 0x23#32), (.setSlot, 0x24#32), (.setPosition, 0x25#32)]

/-- The commands of Table 73 that name a link alone. -/
def linkCommands : List Instr := [.linkRun, .linkStop, .linkReset, .linkConfig, .setSlot, .setPosition]

/-- The commands of Table 73 that name a key or a station record. -/
def recordCommands : List Instr := [.watch, .unwatch, .modify, .inspect, .hold, .release, .forget]

/-- The host access has ended with a termination and a data word, and nothing else is changed. -/
def State.ended (s : State) (t : Termination) (d : Option Word) : State := { s with hterm := t, hdata := d }

/-- A command has been stored in COMMAND, has left its result words and has ended DONE, and nothing else is changed. -/
def State.commandDone (s : State) (code : Word) (r : ResultCode) (r1 r2 r3 : Word) : State :=
  { s with command := code, results := #v[resultWord r, r1, r2, r3], hterm := .done, hdata := none }

/-- The timer a new oldest record starts, or leaves stopped when linger is off; none for an empty list (R61). -/
def lingerStart (linger : BitVec 8) (left : List ChangeRecord) : Option Timer :=
  if left = [] ∨ linger = 0#8 then none else some ⟨linger.toNat, 0⟩

/-- The state without the entries `p` selects and without their change records; the linger timer is touched exactly when
the oldest record goes with them (R12, R19, R55, R61). -/
def State.withoutKeys (s : State) (p : Key → Bool) : State :=
  let left := s.list.filter (fun r => !p r.key)
  let oldestGone := s.list.head?.any (fun r => p r.key)
  { s with
    table := s.table.filter (fun e => !p e.key)
    list := left
    lingered := if oldestGone then false else s.lingered
    lingerTimer := if oldestGone then lingerStart s.linger left else s.lingerTimer }

/-- The fields of a response word (Table 75). -/
abbrev IsResponse (w : Word) (value : Value) (code : Nat) (stale listed : Bool) (age : Nat) : Prop :=
  field w 15 0 = value.toNat ∧ field w 18 16 = code ∧ field w 19 19 = stale.toNat ∧ field w 20 20 = listed.toNat ∧
  field w 23 21 = 0 ∧ field w 31 24 = age % 256

/-- The stale indicator (R22, the last column of Table 7). -/
abbrev IsStale (e : Entry) : Prop := e.periodCode.val ≠ 0 ∧ 2 * 2 ^ (e.periodCode.val - 1) < e.age

/-- The RESULT words of a snapshot (Tables 11 and 78). -/
abbrev IsSnapshot (s : State) (e : Entry) (w1 w2 w3 : Word) : Prop :=
  (field w1 15 0 = e.value.toNat ∧ field w1 23 16 = e.key.register.toNat ∧ field w1 29 24 = e.key.station.val ∧
    field w1 31 30 = e.key.link.val) ∧
  (field w2 2 0 = stateCode e.state ∧ field w2 3 3 = 0 ∧ field w2 6 4 = e.periodCode.val ∧ field w2 7 7 = 0 ∧
    field w2 13 8 = e.phase.val ∧ field w2 14 14 = 0 ∧ field w2 15 15 = e.noteFirst.toNat ∧
    field w2 31 16 = e.mask.toNat) ∧
  (field w3 8 0 = e.pos % 512 ∧ field w3 11 9 = 0 ∧ field w3 16 12 = e.pending % 32 ∧ field w3 19 17 = 0 ∧
    field w3 20 20 = e.doubt.toNat ∧ field w3 21 21 = e.failing.toNat ∧ field w3 22 22 = (s.listed e.key).toNat ∧
    (field w3 23 23 = 1 ↔ IsStale e) ∧ field w3 31 24 = e.age % 256)

/-- The column of a link once its transaction has completed and the line is free with the gap running (R102, R114): what
every completion does there. `run` is the blocked run after it (R104). That the sent-whole indicator and the reply bits
are cleared is the model's choice (notes/assumptions/22.md). -/
def Link.freed (k : Link) (run : Nat) : Link :=
  { k with
    inFlight := none
    blockedRun := run
    line := { k.line with
      phase := .idle, attempt := 0, sentWhole := false, reply := [], rest := .gap, timer := ⟨2, 0⟩ } }

/-- The record of a station replaced. -/
def Link.withRecord (k : Link) (st : StationNo) (r : StationRecord) : Link :=
  { k with stations := k.stations.set st.val r st.isLt }

/-- The demand slot when a station becomes HELD or MISSING: a WAITING request for it has failed (R158). -/
def DemandSlot.failedFor (d : DemandSlot) (st : StationNo) : DemandSlot :=
  match d with
  | .waiting key => if key.station = st then .ready key none 16 else .waiting key
  | .empty => .empty
  | .inFlight key => .inFlight key
  | .ready key v n => .ready key v n

/-- The demand slot when its link enters STOPPING or HALTED: a WAITING request is gone (R92, R160). -/
def DemandSlot.dropped (d : DemandSlot) : DemandSlot :=
  match d with
  | .waiting _ => .empty
  | .empty => .empty
  | .inFlight key => .inFlight key
  | .ready key v n => .ready key v n

/-- The record of a station after a reply (R125). -/
def StationRecord.replied (r : StationRecord) : StationRecord :=
  { standing := if r.standing = .unseen then .present else r.standing, misses := 0, seen := true }

/-- A silence takes the record to MISSING (R127). -/
abbrev StationRecord.IsLost (r : StationRecord) (missLimit : Nat) : Prop :=
  (r.standing = .unseen ∨ r.standing = .present) ∧ missLimit ≤ min 15 (r.misses + 1)

/-- An attempt is under way (R108). -/
abbrev LineState.Attempts (n : LineState) : Prop := n.phase = .request ∨ n.phase = .turnaround ∨ n.phase = .reply

/-- An attempt is under way on a link that carries `tx`, and the levels on SLD give it class `c`: those that its end
brings, and the reply bits gathered so far in their bit times (R108, R113; notes/assumptions/13.md). -/
abbrev Attempting (s : State) (l : LinkNo) (tx : Transaction) (sld : List Bool) (c : AttemptClass) : Prop :=
  (s.link l).inFlight = some tx ∧ (s.link l).line.Attempts ∧
  classify tx (s.link l).line.sentWhole ((s.link l).line.seen tx sld) = c

/-- No attempt remains to the transaction (R114). -/
abbrev LastAttempt (s : State) (l : LinkNo) : Prop := (s.link l).retryLimit < (s.link l).line.attempt

/-- A timer of units of `period` REFCLK periods has more than `n` of them left. -/
abbrev Timer.Outlasts (t : Timer) (period n : Nat) : Prop := n + t.sub < t.left * period

/-- A bit time of the request of a link ends in the REFCLK period from `s` on, and a station holds SLD low in it where the
part leaves it released (R111). -/
abbrev State.Contends (s : State) (l : LinkNo) : Prop :=
  (s.link l).line.rest = .none ∧ (s.link l).line.phase = .request ∧ (s.link l).divider ≤ (s.link l).line.timer.sub ∧
    s.sldDrivenLow l = false ∧ s.sld[l].headD true = false

/-- What the end of a timer, or a contended bit, makes of a state `u` in the REFCLK period from `s` on: the effect of the
row for it (R62, R72, R111, R112, R114, R118, R120). An end of a slot or of linger that another end of the same period has
restarted or stopped has no effect (R62, R83; notes/assumptions/4.md). -/
def EndsAs (s : State) (e : TimerId) (u v : State) : Prop :=
  match e with
  | .slot l => if u.due (.slot l) = true then exec (.slotTick l) u = .next v else v = u
  | .linger => if u.due .linger = true then exec .lingerExpiry u = .next v else v = u
  | .line l =>
    let n := (s.link l).line
    (n.rest = .gap → exec (.gapEnd l) u = .next v) ∧
    (n.rest = .quiet → exec (.quietTimeEnd l) u = .next v) ∧
    ∀ tx, n.rest = .none → (s.link l).inFlight = some tx →
      (∀ i, s.Contends l → i < tx.frame.length → n.timer.left + i = tx.frame.length →
        exec (.attemptEnd l (List.replicate i true ++ [false])) u = .next v) ∧
      (n.phase = .request → ¬ s.Contends l → tx.isBroadcast = true → exec (.attemptEnd l []) u = .next v) ∧
      (n.phase = .request → ¬ s.Contends l → tx.isBroadcast = false → exec (.requestSentWhole l) u = .next v) ∧
      (n.phase = .turnaround →
        v = u.updLink l (fun k => { k with line := { k.line with phase := .reply, reply := [], timer := ⟨3, 0⟩ } })) ∧
      (n.phase = .reply →
        let bits := n.reply ++ [s.sld[l].headD true]
        let window := if bits.length < 3 then 3 else windowBits tx.isRead (sampled bits 0 3)
        (bits.length < window →
          v = u.updLink l (fun k => { k with
            line := { k.line with reply := bits, timer := ⟨window - bits.length, 0⟩ } })) ∧
        (window ≤ bits.length →
          exec (.attemptEnd l (List.replicate (tx.frame.length + 2) true ++ bits)) u = .next v))

/-- Ends of one REFCLK period that take effect one after another, in the order of the list. -/
def EndInTurn (s : State) : List TimerId → State → State → Prop
  | [], u, v => v = u
  | e :: es, u, v => ∃ w, EndsAs s e u w ∧ EndInTurn s es w v

/-- A link as it enters HALTED (R92, R160). -/
def Link.halts (k : Link) (why : HaltReason) : Link :=
  { k with
    state := .halted, haltReason := why, slotTimer := .stopped, events := k.events ||| 0x20#6, demand := k.demand.dropped }

/-- The last act of a completion, once its outcome has been routed: the fourth BLOCKED in a row halts the link by line
fault (R104), another completion of a STOPPING link by the host's stop (R93), and after any other the arbiter picks
(R102). -/
def State.finished (s : State) (l : LinkNo) : State :=
  if (s.link l).blockedRun = 4 then s.updLink l (fun k => k.halts .lineFault)
  else if (s.link l).state = .stopping then s.updLink l (fun k => k.halts .hostStop)
  else s.arbitrate l

/-- No station holds SLD low at a bit of the request at which the part leaves it released (R111). -/
abbrev Unopposed (tx : Transaction) (sld : List Bool) : Prop :=
  ∀ i, i < tx.frame.length → tx.frame.getD i true = true → sld.getD i true = true

/-- An entry at the loss of its station (R42). -/
def Entry.lost (e : Entry) : Entry × List Reason :=
  ({ e with state := .orphaned, pending := 0 }, if 0 < e.pending then [.writeFailed, .orphaned] else [.orphaned])

end Sys2Proof.Machine

open Sys2Proof Sys2Proof.Machine Host.Outcome

/-! ## The machine as a whole -/

/-- A step executes the command at the front of the queue on the state with the rest of the queue (INVENTORY, Agents; the
queue is the model's, notes/assumptions/16.md). -/
def Obligations.StepRunsTheFrontCommand : Prop :=
  ∀ (c : Instr) (rest : List Instr) (s : State),
    step { s with pending := c :: rest } = exec c { s with pending := rest }

/-- A step on an empty queue lets one REFCLK period pass: the timers that run and do not run out in it move on, each in
periods of its own unit (R61, R70, R71, R107), a bit of a reply is gathered at the end of its bit time (R108), and what
ends in the period does what the table's row for it does. Where two or more end in it, they take effect one after another
in some order, each as its row where it is still due; which order is free (notes/assumptions/4.md). That a step on an empty
queue is a REFCLK period, and that the state holds the levels to come on SLD, is the model's choice
(notes/assumptions/1.md), and so is that HTERM and HD stay meanwhile (notes/assumptions/20.md). -/
def Obligations.TimeRaisesTheEventsOfTheRows : Prop :=
  ∀ s : State, s.pending = [] → s.rstLow = false →
    let t := s.advanceTimers
    let attempts : LinkNo → Prop := fun l => (s.link l).line.rest = .none ∧ (s.link l).line.Attempts
    let timed : LinkNo → Prop := fun l => (s.link l).line.rest ≠ .none ∨ (s.link l).line.Attempts
    let bitEnds : LinkNo → Prop := fun l => (s.link l).divider ≤ (s.link l).line.timer.sub
    (TimerId.all.filter s.due = [] → step s = next t) ∧
    -- which timers end
    (∀ l, s.due (.line l) = true ↔
      (timed l ∧ (s.link l).line.timer.last ((s.link l).divider + 1) = true) ∨ s.Contends l) ∧
    (∀ l, s.due (.slot l) = true ↔
      ∃ m : Timer, (s.link l).slotTimer = .running m ∧ m.last ((s.link l).divider + 1) = true) ∧
    (s.due .linger = true ↔ ∃ m : Timer, s.lingerTimer = some m ∧ m.last 3200 = true) ∧
    -- what the others do
    (∃ (columns : Vector Link 4) (levels : Vector (List Bool) 4) (linger : Option Timer),
      t = { s with links := columns, sld := levels, lingerTimer := linger } ∧
      (∀ m, s.lingerTimer = some m → linger = some (if m.last 3200 then m else m.advance 3200)) ∧
      (s.lingerTimer = none → linger = none) ∧
      ∀ l : LinkNo, ∃ (line : LineState) (slot : SlotTimer),
        columns[l] = { s.link l with line := line, slotTimer := slot } ∧
        (s.due (.line l) = true ∨ ¬ timed l → line = (s.link l).line) ∧
        (s.due (.line l) = false → timed l →
          line = { (s.link l).line with
            timer := (s.link l).line.timer.advance ((s.link l).divider + 1), reply := line.reply } ∧
          (attempts l → bitEnds l → (s.link l).line.phase = .reply →
            line.reply = (s.link l).line.reply ++ [s.sld[l].headD true]) ∧
          (¬ (attempts l ∧ bitEnds l ∧ (s.link l).line.phase = .reply) → line.reply = (s.link l).line.reply)) ∧
        (∀ m, (s.link l).slotTimer = .running m →
          slot = .running (if m.last ((s.link l).divider + 1) then m else m.advance ((s.link l).divider + 1))) ∧
        ((∀ m, (s.link l).slotTimer ≠ .running m) → slot = (s.link l).slotTimer) ∧
        (attempts l → bitEnds l → levels[l] = s.sld[l].tail) ∧ (¬ (attempts l ∧ bitEnds l) → levels[l] = s.sld[l])) ∧
    -- what the ends do
    (∀ e, TimerId.all.filter s.due = [e] → ∃ v, step s = next v ∧ EndsAs s e t v) ∧
    (2 ≤ (TimerId.all.filter s.due).length →
      ∃ (order : List TimerId) (v : State), order.Perm (TimerId.all.filter s.due) ∧ step s = next v ∧
        EndInTurn s order { t with choices := s.choices + 1 } v)

/-- A timer of so many units of so many REFCLK periods runs out in the last period of the last unit and in none before:
linger in units of 3200 periods (R61), a slot of 64 × N bit times of D + 1 periods (R70). That timers count in REFCLK
periods, from none gone at the start, is the model's choice (notes/assumptions/1.md). -/
def Obligations.TimerRunsItsWholeTime : Prop :=
  ∀ units period k : Nat, 1 ≤ units → 1 ≤ period → k < units * period →
    ((fun t : Timer => t.advance period)^[k] ⟨units, 0⟩).last period = decide (k + 1 = units * period)

/-- No command and no step stops the part. No command touches the queue of those that wait or the levels to come on the
lines, PIN_RESET included: both are inputs of the model's own, and that they stay is its choice (notes/assumptions/1.md,
notes/assumptions/10.md, notes/assumptions/16.md). -/
def Obligations.NoCommandStops : Prop :=
  (∀ (c : Instr) (s : State), ∃ t, exec c s = next t ∧ t.pending = s.pending ∧ t.sld = s.sld) ∧ ∀ s : State, ∃ t, step s = next t

/-- PIN_RESET puts every block in its pin-reset state whatever the state before, with the lines idle and ATTN deasserted,
and PIN_RESET_RELEASE then leaves the reset state with a quiet time of 29 bit times on every line (R23, R60, R61, R65, R67,
R86, R106, R120, R136, R147, R148, R160, R166; Tables 30, 37 and 58). HTERM, HD, the sent-whole
indicator and the reply bits have the model's values, and the queue of commands, the levels to come on the lines and the
counter of free values are the model's own and stay (notes/assumptions/10.md). -/
def Obligations.PinResetAndRelease : Prop :=
  ∀ s : State, ∃ low,
    let column : Link :=
      { state := .off, haltReason := .none, pointer := .poll, inFlight := none, blockedRun := 0, divider := 49,
        retryLimit := 2, missLimit := 3, fault := ⟨.station 0, 0#8, 0#16, .none⟩, events := 0#6, enables := 0#6,
        position := 0, slotSetting := 32, slotTimer := .stopped, batch := [], dropped := 0, endedHolds := [], queue := [],
        demand := .empty, stations := Vector.replicate 63 ⟨.unseen, 0, false⟩,
        line := ⟨.idle, 0, false, [], .quiet, ⟨29, 0⟩⟩ }
    let part : Bool → State := fun rstLow =>
      { pending := s.pending, sld := s.sld, choices := s.choices, rstLow := rstLow, hterm := .notEnded, hdata := none,
        command := 0#32, args := Vector.replicate 4 0#32, results := Vector.replicate 4 0#32,
        taken := Vector.replicate 3 0#32, table := [], list := [], noticeEnable := false, threshold := 1#8, linger := 0#8,
        lingerTimer := none, lingered := false, links := Vector.replicate 4 column }
    exec .pinReset s = next low ∧ low = part true ∧
    low.attn = false ∧ (∀ l, low.sldDrivenLow l = false ∧ low.slcToggling l = false) ∧
    exec .pinResetRelease low = next (part false) ∧
    State.reset = { part false with pending := [], sld := Vector.replicate 4 [], choices := 0 }

/-- An access while RST_N is low, of partial width, misaligned, or to a control-block address that names no word ends
ERROR and reaches no block (R162, checks 1 to 4). -/
def Obligations.AccessRefusedByItsForm : Prop :=
  ∀ (c : Instr) (a : HostAddr) (be : ByteEnables) (s : State), accessOf c = some (a, be) →
    (s.rstLow = true ∨ be ≠ 0xF#4 ∨ a.toNat % 4 ≠ 0 ∨
      (0x80000 ≤ a.toNat ∧ ∀ w : ControlWord, w.address ≠ a.toNat)) →
    exec c s = next (s.ended .error none)

/-! ## The port

Reads of control words have no row in the table; `State.hostRead` is the model's entry for them (notes/assumptions/11.md). -/

/-- The words ARG0-ARG3 and COMMAND (R164): a write replaces the word whole and ends DONE; a read returns the word as last
written; a command leaves the ARG words and stores its code, known or not; the resets. IDENT, the reads of RESULT0-RESULT3
(R165) and of TAKEN1-TAKEN3 (R57), what HTERM1-HTERM0 show of a termination (Table 74), and the port's own words after the
resets (R166). -/
def Obligations.PortWords : Prop :=
  (∀ (s : State) (n : Fin 4) (d : Word), s.rstLow = false →
    exec (.registerWrite (BitVec.ofNat 20 (0x80010 + n.val * 4)) 0xF#4 d) s =
      next ({ s with args := s.args.set n.val d n.isLt }.ended .done none) ∧
    s.hostRead (BitVec.ofNat 20 (0x80010 + n.val * 4)) 0xF#4 = s.ended .done (some s.args[n]) ∧
    s.hostRead 0x80004#20 0xF#4 = s.ended .done (some s.command) ∧
    s.hostRead 0x80000#20 0xF#4 = s.ended .done (some 0x4C014212#32) ∧
    exec (.registerWrite 0x80000#20 0xF#4 d) s = next (s.ended .error none)) ∧
  (∀ (s : State) (n : Fin 4), s.rstLow = false →
    s.hostRead (BitVec.ofNat 20 (0x80020 + n.val * 4)) 0xF#4 = s.ended .done (some s.results[n])) ∧
  (∀ (s : State) (n : Fin 3), s.rstLow = false →
    s.hostRead (BitVec.ofNat 20 (0x80034 + n.val * 4)) 0xF#4 = s.ended .done (some s.taken[n])) ∧
  (Termination.notEnded.pins = 0b00#2 ∧ Termination.done.pins = 0b01#2 ∧ Termination.retry.pins = 0b10#2 ∧
    Termination.error.pins = 0b11#2) ∧
  (∀ (p : Instr × Word) (s : State), p ∈ commandTable → s.rstLow = false →
    ∃ t, exec p.1 s = next t ∧ exec (.registerWrite 0x80004#20 0xF#4 p.2) s = next t ∧ t.args = s.args ∧
      t.command = p.2 ∧ t.hterm = .done) ∧
  (∀ (v : Word) (s : State), s.rstLow = false →
    ∃ t, exec (.unknownCommand v) s = next t ∧ t.args = s.args ∧ t.command = v ∧ t.hterm = .done) ∧
  (State.reset.command = 0#32 ∧ (∀ n : Fin 4, State.reset.args[n] = 0#32) ∧
    (∀ n : Fin 4, State.reset.results[n] = 0#32) ∧ ∀ n : Fin 3, State.reset.taken[n] = 0#32) ∧
  ∀ (s : State) (l : LinkNo), (s.resetLink l).command = s.command ∧ (s.resetLink l).args = s.args ∧
    (s.resetLink l).results = s.results ∧ (s.resetLink l).taken = s.taken

/-- A refused command leaves every block as it was: what changes is COMMAND, the result code, the zeros of RESULT1-RESULT3
and the termination (R165). -/
def Obligations.RefusedCommandChangesOnlyTheResult : Prop :=
  ∀ (p : Instr × Word) (s t : State), p ∈ commandTable → s.rstLow = false → exec p.1 s = next t →
    t.results[0] ≠ 0#32 → ∃ r : ResultCode, t.results[0] = resultWord r ∧ t = s.commandDone p.2 r 0#32 0#32 0#32

/-- The common checks of R165: a value that is no code gives UNKNOWN_COMMAND; a link number above 3 and a station number
above 62 give BAD_ARGUMENT; nothing else changes. A code, by whatever row it is written, runs its command
(notes/assumptions/12.md). -/
def Obligations.CommonChecks : Prop :=
  (∀ (v : Word) (s : State), s.rstLow = false → (∀ p ∈ commandTable, p.2 ≠ v) →
    exec (.unknownCommand v) s = next (s.commandDone v .unknownCommand 0#32 0#32 0#32)) ∧
  (∀ (p : Instr × Word) (s : State), p ∈ commandTable → s.rstLow = false →
    ((p.1 ∈ linkCommands ∨ p.1 ∈ recordCommands) ∧ 3 < field s.args[0] 19 16 ∨
      p.1 ∈ recordCommands ∧ 62 < field s.args[0] 13 8) →
    exec p.1 s = next (s.commandDone p.2 .badArgument 0#32 0#32 0#32)) ∧
  ∀ (p : Instr × Word) (s : State), p ∈ commandTable →
    exec (.unknownCommand p.2) s = exec p.1 s ∧ exec (.registerWrite 0x80004#20 0xF#4 p.2) s = exec p.1 s

/-- The address map (R163, Table 72): how window addresses split, which addresses the three regions hold, which address
each control word has, station 63 as the broadcast number, and the ERROR of every other access to the control block. -/
def Obligations.AddressMap : Prop :=
  (∀ (l : LinkNo) (n : Fin 64) (reg : RegNo),
    (regionOf (windowAddr 0 l n.val reg) = .cached ∧ regionOf (windowAddr 0x40000 l n.val reg) = .direct) ∧
    ∀ base, base = 0 ∨ base = 0x40000 →
      windowLink (windowAddr base l n.val reg) = l ∧ windowDest (windowAddr base l n.val reg) = destOf (BitVec.ofNat 6 n.val) ∧
      windowRegister (windowAddr base l n.val reg) = reg) ∧
  (destOf 63#6 = .broadcast ∧ ∀ st : StationNo, destOf (BitVec.ofNat 6 st.val) = .station st) ∧
  (∀ a : HostAddr, a.toNat < 0x80000 → a.toNat % 4 = 0 →
    ∃ (base : Nat) (l : LinkNo) (n : Fin 64) (reg : RegNo), (base = 0 ∨ base = 0x40000) ∧ a = windowAddr base l n.val reg) ∧
  (∀ a : HostAddr, regionOf a = .control ↔ 0x80000 ≤ a.toNat) ∧
  (∀ (a : HostAddr) (w : ControlWord), a.toNat % 4 = 0 → (controlWordAt a = some w ↔ a.toNat = w.address)) ∧
  (∀ (a : HostAddr) (s : State) (d : Word), 0x80000 ≤ a.toNat → (∀ w, controlWordAt a = some w → w.writable = false) →
    exec (.registerWrite a 0xF#4 d) s = next (s.ended .error none)) ∧
  (∀ (a : HostAddr) (s : State), 0x80000 ≤ a.toNat → (∀ w : ControlWord, w.address ≠ a.toNat) →
    s.hostRead a 0xF#4 = s.ended .error none) ∧
  ∀ (l : LinkNo) (reg : RegNo) (s : State),
    exec (.demandRead (windowAddr 0x40000 l 63 reg) 0xF#4) s = next (s.ended .error none) ∧
    exec (.demandRead (windowAddr 0 l 63 reg) 0xF#4) s = next (s.ended .error none)

/-! ## The watch table -/

/-- The laws of R3 and R4: the bucket of a key, at most 4 entries in a bucket and 512 in the table; and with them at most
256 entries of a station (R6) and 512 change records (R50). -/
def Obligations.TableNeverOverfills : Prop :=
  (∀ k : Key, k.bucket = (k.register.toNat + 9 * k.station.val + 33 * k.link.val) % 128 ∧
    k.register.toNat + 9 * k.station.val + 33 * k.link.val ≤ 912) ∧
  ∀ s : State, s.TableSound →
    s.table.length ≤ 512 ∧ (∀ b, s.table.countP (fun e => e.key.bucket == b) ≤ 4) ∧
    (∀ l st, s.entryCount l st ≤ 256) ∧ (s.ListSound → s.list.length ≤ 512)

/-- The checks of WATCH in the order of Table 8 (R9). -/
def Obligations.WatchChecks : Prop :=
  ∀ (s : State) (k : Key) (code : Fin 8) (phase : Fin 64) (first : Bool), s.rstLow = false → NamesKey s.args[0] k →
    NamesSchedule s.args[1] code phase first →
    (¬ LegalSchedule code phase → exec .watch s = next (s.commandDone 0x01#32 .badArgument 0#32 0#32 0#32)) ∧
    (LegalSchedule code phase → (∃ e ∈ s.table, e.key = k) →
      exec .watch s = next (s.commandDone 0x01#32 .duplicate 0#32 0#32 0#32)) ∧
    (LegalSchedule code phase → (∀ e ∈ s.table, e.key ≠ k) →
      (∀ w, w < 4 → ∃ e ∈ s.table, e.pos = k.bucket * 4 + w) →
      exec .watch s = next (s.commandDone 0x01#32 .bucketFull 0#32 0#32 0#32))

/-- A WATCH that passes its checks creates the entry of Table 9 in the lowest free way, raises the entry count, and lists
nothing (R10, R4, R6). The pick that follows is by the general rule of R98 (notes/assumptions/8.md). -/
def Obligations.WatchCreatesAnEntry : Prop :=
  ∀ (s : State) (k : Key) (code : Fin 8) (phase : Fin 64) (first : Bool) (w : Nat), s.rstLow = false →
    NamesKey s.args[0] k → NamesSchedule s.args[1] code phase first → LegalSchedule code phase →
    (∀ e ∈ s.table, e.key ≠ k) → w < 4 → (∀ e ∈ s.table, e.pos ≠ k.bucket * 4 + w) →
    (∀ v, v < w → ∃ e ∈ s.table, e.pos = k.bucket * 4 + v) →
    let queued := (s.link k.link).queue.filter (fun r => r.dest == .station k.station && r.register == k.register)
    ∃ e : Entry,
      exec .watch s =
        next ((({ s with table := insertEntry e s.table }.commandDone 0x01#32 .ok (BitVec.ofNat 32 e.pos) 0#32 0#32)).arbitrate
          k.link) ∧
      (∀ x, x ∈ insertEntry e s.table ↔ x = e ∨ x ∈ s.table) ∧
      (e.key = k ∧ e.pos = k.bucket * 4 + w ∧ e.periodCode = code ∧ e.phase = phase ∧ e.noteFirst = first ∧
        e.mask.toNat = field s.args[2] 15 0 ∧ e.age = 0 ∧ e.doubt = false ∧ e.failing = false) ∧
      ((s.station k.link k.station).standing = .missing → e.state = .orphaned ∧ e.value = 0#16 ∧ e.pending = 0) ∧
      ((s.station k.link k.station).standing ≠ .missing → ∀ r, queued.getLast? = some r →
        e.state = .writing ∧ e.value = r.data ∧ e.pending = queued.length) ∧
      ((s.station k.link k.station).standing ≠ .missing → queued = [] →
        e.state = .priming ∧ e.value = 0#16 ∧ e.pending = 0) ∧
      ({ s with table := insertEntry e s.table } : State).entryCount k.link k.station = s.entryCount k.link k.station + 1 ∧
      (s.ListSound → s.listed k = false)

/-- UNWATCH and PURGE remove the entries they select with their change records and leave everything else, queued writes
included, in place (R12, R18, R19, R55). -/
def Obligations.RemovalOfEntries : Prop :=
  (∀ (s : State) (k : Key), s.rstLow = false → NamesKey s.args[0] k →
    ((∃ e ∈ s.table, e.key = k) →
      exec .unwatch s = next ((s.withoutKeys (fun x => x == k)).commandDone 0x02#32 .ok 0#32 0#32 0#32)) ∧
    ((∀ e ∈ s.table, e.key ≠ k) → exec .unwatch s = next (s.commandDone 0x02#32 .notFound 0#32 0#32 0#32))) ∧
  ∀ s : State, s.rstLow = false →
    (field s.args[0] 31 31 = 0 → 3 < field s.args[0] 19 16 →
      exec .purge s = next (s.commandDone 0x06#32 .badArgument 0#32 0#32 0#32)) ∧
    (field s.args[0] 31 31 = 1 ∨ field s.args[0] 19 16 ≤ 3 →
      let selected : Key → Bool := fun k =>
        (field s.args[0] 31 31 == 1 || k.link.val == field s.args[0] 19 16) &&
          (field s.args[0] 13 8 == 63 || k.station.val == field s.args[0] 13 8)
      exec .purge s =
        next ((s.withoutKeys selected).commandDone 0x06#32 .ok
          (BitVec.ofNat 32 (s.table.countP (fun e => selected e.key) % 1024)) 0#32 0#32))

/-- MODIFY replaces the schedule, mask and option of the entry and makes a REFUSED one PRIMING; it lists nothing and
changes no other field and no other entry (R14, R15). The pick that follows is by the general rule of R98
(notes/assumptions/8.md). -/
def Obligations.ModifyReplacesTheSchedule : Prop :=
  ∀ (s : State) (k : Key) (code : Fin 8) (phase : Fin 64) (first : Bool), s.rstLow = false → NamesKey s.args[0] k →
    NamesSchedule s.args[1] code phase first →
    (¬ LegalSchedule code phase → exec .modify s = next (s.commandDone 0x03#32 .badArgument 0#32 0#32 0#32)) ∧
    (LegalSchedule code phase → (∀ e ∈ s.table, e.key ≠ k) →
      exec .modify s = next (s.commandDone 0x03#32 .notFound 0#32 0#32 0#32)) ∧
    (LegalSchedule code phase → ∀ e, s.find k = some e → e.pos < 512 →
      exec .modify s =
        next ((({ s with
            table := s.table.map (fun x =>
              if x.key = k then
                { x with
                  periodCode := code, phase := phase, mask := s.args[2].extractLsb' 0 16, noteFirst := first,
                  state := if x.state = .refused then .priming else x.state }
              else x) } : State).commandDone 0x03#32 .ok (BitVec.ofNat 32 e.pos) 0#32 0#32).arbitrate k.link))

/-- INSPECT and ENUMERATE answer with the snapshot of an entry and change no state besides; ENUMERATE finds the lowest
occupied position at or above its start (R16, R17, Tables 11 and 78). -/
def Obligations.SnapshotsOfEntries : Prop :=
  (∀ (s : State) (k : Key), s.rstLow = false → NamesKey s.args[0] k →
    ((∀ e ∈ s.table, e.key ≠ k) → exec .inspect s = next (s.commandDone 0x04#32 .notFound 0#32 0#32 0#32)) ∧
    ∀ e, s.find k = some e → ∃ w1 w2 w3, IsSnapshot s e w1 w2 w3 ∧
      exec .inspect s = next (s.commandDone 0x04#32 .ok w1 w2 w3)) ∧
  ∀ s : State, s.rstLow = false → s.TableSound →
    (511 < s.args[0].toNat → exec .enumerate s = next (s.commandDone 0x05#32 .badArgument 0#32 0#32 0#32)) ∧
    (s.args[0].toNat ≤ 511 → (∀ e ∈ s.table, e.pos < s.args[0].toNat) →
      exec .enumerate s = next (s.commandDone 0x05#32 .notFound 0#32 0#32 0#32)) ∧
    (s.args[0].toNat ≤ 511 → ∀ e ∈ s.table, s.args[0].toNat ≤ e.pos →
      (∀ x ∈ s.table, s.args[0].toNat ≤ x.pos → e.pos ≤ x.pos) →
      ∃ w1 w2 w3, IsSnapshot s e w1 w2 w3 ∧ exec .enumerate s = next (s.commandDone 0x05#32 .ok w1 w2 w3))

/-! ## Stations -/

/-- HOLD (R132). -/
def Obligations.HoldHoldsAStation : Prop :=
  ∀ (s : State) (l : LinkNo) (st : StationNo), s.rstLow = false → NamesRecord s.args[0] l st →
    (65535 < s.args[1].toNat → exec .hold s = next (s.commandDone 0x10#32 .badArgument 0#32 0#32 0#32)) ∧
    (s.args[1].toNat ≤ 65535 → (s.station l st).standing = .missing →
      exec .hold s = next (s.commandDone 0x10#32 .stationMissing 0#32 0#32 0#32)) ∧
    (s.args[1].toNat ≤ 65535 → (s.station l st).standing ≠ .missing →
      exec .hold s =
        next ((s.updLink l (fun k =>
          { k.withRecord st { k.station st with
              standing := .held ⟨.host, if s.args[1].toNat = 0 then none else some s.args[1].toNat⟩ } with
            demand := k.demand.failedFor st })).commandDone 0x10#32 .ok 0#32 0#32 0#32))

/-- RELEASE (R133). -/
def Obligations.ReleaseEndsAHold : Prop :=
  ∀ (s : State) (l : LinkNo) (st : StationNo), s.rstLow = false → NamesRecord s.args[0] l st →
    ((∀ h, (s.station l st).standing ≠ .held h) →
      exec .release s = next (s.commandDone 0x11#32 .ok 0#32 0#32 0#32)) ∧
    ∀ h, (s.station l st).standing = .held h →
      exec .release s =
        next (((s.updLink l (fun k => k.withRecord st { k.station st with
          standing := if (k.station st).seen then .present else .unseen })).commandDone 0x11#32 .ok 0#32 0#32
            0#32).arbitrate l)

/-- FORGET (R134, R45). The pick that follows is by the general rule of R98 (notes/assumptions/8.md). -/
def Obligations.ForgetAMissingStation : Prop :=
  ∀ (s : State) (l : LinkNo) (st : StationNo), s.rstLow = false → NamesRecord s.args[0] l st →
    ((s.station l st).standing ≠ .missing →
      exec .forget s = next (s.commandDone 0x12#32 .notMissing 0#32 0#32 0#32)) ∧
    ((s.station l st).standing = .missing →
      exec .forget s =
        next ((({ s.updLink l (fun k => k.withRecord st ⟨.unseen, 0, false⟩) with
            table := s.table.map (fun e =>
              if e.key.link = l ∧ e.key.station = st ∧ e.state = .orphaned then { e with state := .priming } else e) } :
          State).commandDone 0x12#32 .ok 0#32 0#32 0#32).arbitrate l))

/-- The station view (R135, Table 79). -/
def Obligations.StationViewWords : Prop :=
  ∀ (s : State) (l : LinkNo), s.rstLow = false →
    s.hostRead (BitVec.ofNat 20 (0x80400 + l.val * 0x100 + 63 * 4)) 0xF#4 = s.ended .done (some 0#32) ∧
    (∀ (n : Fin 64) (d : Word),
      exec (.registerWrite (BitVec.ofNat 20 (0x80400 + l.val * 0x100 + n.val * 4)) 0xF#4 d) s = next (s.ended .error none)) ∧
    ∀ st : StationNo, (s.station l st).Sound → s.entryCount l st ≤ 256 →
      ∃ w : Word,
        s.hostRead (BitVec.ofNat 20 (0x80400 + l.val * 0x100 + st.val * 4)) 0xF#4 = s.ended .done (some w) ∧
        field w 24 16 = s.entryCount l st ∧ field w 28 25 = (s.station l st).misses ∧
        field w 15 0 = (match (s.station l st).standing with | .held ⟨_, some n⟩ => n | _ => 0) ∧
        field w 31 29 =
          (match (s.station l st).standing with
            | .unseen => 0
            | .present => 1
            | .held ⟨.station, _⟩ => 3
            | .held ⟨.host, _⟩ => 4 + (s.station l st).seen.toNat
            | .missing => 6 + (s.station l st).seen.toNat)

/-! ## Link commands -/

/-- LINK_RUN (R90): afresh from OFF or HALTED with a capture at the present position and a full slot (R82), back from
STOPPING with what the link kept, and nothing on a RUNNING link. -/
def Obligations.LinkRun : Prop :=
  ∀ (s : State) (l : LinkNo), s.rstLow = false → NamesLink s.args[0] l →
    ((s.link l).state = .off ∨ (s.link l).state = .halted →
      exec .linkRun s =
        next (((s.updLink l (fun k =>
          { k with
            state := .running, haltReason := .none, blockedRun := 0, slotTimer := .running ⟨64 * k.slotSetting, 0⟩,
            endedHolds := [], batch := s.capture l k.position })).commandDone 0x20#32 .ok 0#32 0#32 0#32).arbitrate l)) ∧
    (∀ t, (s.link l).state = .stopping → (s.link l).slotTimer = .paused t →
      exec .linkRun s =
        next ((s.updLink l (fun k => { k with state := .running, slotTimer := .running t })).commandDone 0x20#32 .ok 0#32
          0#32 0#32)) ∧
    ((s.link l).state = .running → exec .linkRun s = next (s.commandDone 0x20#32 .ok 0#32 0#32 0#32))

/-- LINK_STOP (R91, R92). -/
def Obligations.LinkStop : Prop :=
  ∀ (s : State) (l : LinkNo), s.rstLow = false → NamesLink s.args[0] l →
    ((s.link l).state ≠ .running → exec .linkStop s = next (s.commandDone 0x21#32 .ok 0#32 0#32 0#32)) ∧
    ((s.link l).state = .running → (s.link l).inFlight = none →
      exec .linkStop s =
        next ((s.updLink l (fun k =>
          { k with
            state := .halted, haltReason := .hostStop, slotTimer := .stopped, events := k.events ||| 0x20#6,
            demand := k.demand.dropped })).commandDone 0x21#32 .ok 0#32 0#32 0#32)) ∧
    (∀ t tx, (s.link l).state = .running → (s.link l).inFlight = some tx → (s.link l).slotTimer = .running t →
      exec .linkStop s =
        next ((s.updLink l (fun k =>
          { k with
            state := .stopping, slotTimer := .paused t,
            demand := k.demand.dropped })).commandDone 0x21#32 .ok 0#32 0#32 0#32))

/-- LINK_RESET (R94, R46, R47, R86, R106, R136, R147, R160): the column cleared but for its settings, halt reason, position,
dropped count, fault record, events and enables; the states of the link's entries changed, with one listing for each
WRITING entry. That a reset starts a quiet time only where it abandons a transaction is the model's reading
(notes/assumptions/9.md), and that it clears the sent-whole indicator and the reply bits there is its choice
(notes/assumptions/22.md). -/
def Obligations.LinkReset : Prop :=
  ∀ (s : State) (l : LinkNo), s.rstLow = false → NamesLink s.args[0] l →
    let takenByStation : Key → Prop := fun key =>
      ∃ d, (s.link l).inFlight = some (.write key.station key.register d) ∧ (s.link l).line.sentWhole = true
    ∃ change : Entry → Entry × List Reason,
      (∀ e : Entry, e.key.link = l →
        (e.state = .orphaned → change e = ({ e with state := .priming }, [])) ∧
        (e.state = .writing → takenByStation e.key →
          change e = ({ e with state := .doubtful, pending := 0 }, [.writeUnknown])) ∧
        (e.state = .writing → ¬ takenByStation e.key →
          change e = ({ e with state := .doubtful, pending := 0 }, [.writeFailed])) ∧
        (e.state ≠ .orphaned → e.state ≠ .writing → change e = (e, []))) ∧
      exec .linkReset s =
        next ((((s.updLink l (fun k =>
          { k with
            state := .off, pointer := .poll, inFlight := none, blockedRun := 0, slotTimer := .stopped, batch := [],
            endedHolds := [], queue := [], demand := .empty, stations := Vector.replicate 63 ⟨.unseen, 0, false⟩,
            line := if k.inFlight = none then k.line else ⟨.idle, 0, false, [], .quiet, ⟨29, 0⟩⟩ })).entryEvent
          (fun e => e.key.link == l) change)).commandDone 0x22#32 .ok 0#32 0#32 0#32)

/-- LINK_CONFIG (R96). -/
def Obligations.LinkConfig : Prop :=
  ∀ (s : State) (l : LinkNo), s.rstLow = false → NamesLink s.args[0] l →
    let legal := 3 ≤ s.args[1].toNat ∧ s.args[1].toNat ≤ 999 ∧ s.args[2].toNat ≤ 7 ∧ 1 ≤ s.args[3].toNat ∧ s.args[3].toNat ≤ 15
    (¬ legal → exec .linkConfig s = next (s.commandDone 0x23#32 .badArgument 0#32 0#32 0#32)) ∧
    (legal → (s.link l).state = .running ∨ (s.link l).state = .stopping →
      exec .linkConfig s = next (s.commandDone 0x23#32 .linkBusy 0#32 0#32 0#32)) ∧
    (legal → (s.link l).state = .off ∨ (s.link l).state = .halted →
      exec .linkConfig s =
        next ((s.updLink l (fun k =>
          { k with divider := s.args[1].toNat, retryLimit := s.args[2].toNat, missLimit := s.args[3].toNat })).commandDone
          0x23#32 .ok 0#32 0#32 0#32))

/-- SET_SLOT (R84), with the start of the next slot by a tick or by LINK_RUN, and the setting after the resets. -/
def Obligations.SetSlot : Prop :=
  (∀ (s : State) (l : LinkNo), s.rstLow = false → NamesLink s.args[0] l →
    (s.args[1].toNat < 4 ∨ 255 < s.args[1].toNat →
      exec .setSlot s = next (s.commandDone 0x24#32 .badArgument 0#32 0#32 0#32)) ∧
    (4 ≤ s.args[1].toNat → s.args[1].toNat ≤ 255 →
      exec .setSlot s =
        next ((s.updLink l (fun k => { k with slotSetting := s.args[1].toNat })).commandDone 0x24#32 .ok 0#32 0#32 0#32))) ∧
  (∀ s : State, s.rstLow = false → 3 < field s.args[0] 19 16 →
    exec .setSlot s = next (s.commandDone 0x24#32 .badArgument 0#32 0#32 0#32)) ∧
  (∀ (s : State) (l : LinkNo), (s.link l).state = .running → ∃ t, exec (.slotTick l) s = next t ∧
    (t.link l).slotTimer = .running ⟨64 * (s.link l).slotSetting, 0⟩ ∧ (t.link l).slotSetting = (s.link l).slotSetting) ∧
  (∀ (s : State) (l : LinkNo), s.rstLow = false → NamesLink s.args[0] l →
    (s.link l).state = .off ∨ (s.link l).state = .halted → ∃ t, exec .linkRun s = next t ∧
      (t.link l).slotTimer = .running ⟨64 * (s.link l).slotSetting, 0⟩) ∧
  (∀ l, (State.reset.link l).slotSetting = 32) ∧
  ∀ (s : State) (l : LinkNo), ((s.resetLink l).link l).slotSetting = (s.link l).slotSetting

/-- SET_POSITION (R85), with the capture of the next LINK_RUN at the position. -/
def Obligations.SetPosition : Prop :=
  (∀ s : State, s.rstLow = false → 3 < field s.args[0] 19 16 →
    exec .setPosition s = next (s.commandDone 0x25#32 .badArgument 0#32 0#32 0#32)) ∧
  (∀ (s : State) (l : LinkNo), s.rstLow = false → NamesLink s.args[0] l →
    (63 < s.args[1].toNat → exec .setPosition s = next (s.commandDone 0x25#32 .badArgument 0#32 0#32 0#32)) ∧
    (s.args[1].toNat ≤ 63 → (s.link l).state = .running ∨ (s.link l).state = .stopping →
      exec .setPosition s = next (s.commandDone 0x25#32 .linkBusy 0#32 0#32 0#32)) ∧
    ∀ p : Fin 64, s.args[1].toNat = p.val → (s.link l).state = .off ∨ (s.link l).state = .halted →
      exec .setPosition s =
        next ((s.updLink l (fun k => { k with position := p })).commandDone 0x25#32 .ok 0#32 0#32 0#32)) ∧
  ∀ (s : State) (l : LinkNo), s.rstLow = false → NamesLink s.args[0] l →
    (s.link l).state = .off ∨ (s.link l).state = .halted → ∃ u t : State, exec .linkRun s = next t ∧ t = u.arbitrate l ∧
      (u.link l).batch = s.capture l (s.link l).position

/-- The words LINK_STATUS (R105) and WRITE_FAULT (R149) of a link. -/
def Obligations.LinkStatusAndFaultWords : Prop :=
  ∀ (s : State) (l : LinkNo), s.rstLow = false →
    (∃ w : Word, s.hostRead (BitVec.ofNat 20 (0x80100 + l.val * 0x20)) 0xF#4 = s.ended .done (some w) ∧
      field w 1 0 = (match (s.link l).state with | .off => 0 | .running => 1 | .stopping => 2 | .halted => 3) ∧
      field w 3 2 = (match (s.link l).haltReason with | .none => 0 | .hostStop => 1 | .lineFault => 2) ∧
      field w 9 4 = (s.link l).position.val ∧ field w 14 10 = (s.link l).queue.length % 32 ∧ field w 15 15 = 0 ∧
      field w 17 16 =
        (match (s.link l).demand with | .empty => 0 | .waiting _ => 1 | .inFlight _ => 2 | .ready _ _ _ => 3) ∧
      field w 27 18 = (s.link l).dropped % 1024 ∧ field w 30 28 = (s.link l).blockedRun % 8 ∧ field w 31 31 = 0) ∧
    (∃ w : Word, s.hostRead (BitVec.ofNat 20 (0x8010C + l.val * 0x20)) 0xF#4 = s.ended .done (some w) ∧
      field w 7 0 = (s.link l).fault.register.toNat ∧
      field w 13 8 = (match (s.link l).fault.dest with | .station st => st.val | .broadcast => 63) ∧
      field w 15 14 = 0 ∧
      field w 17 16 =
        (match (s.link l).fault.outcome with | .none => 0 | .rejected => 1 | .blocked => 2 | .unknown => 3) ∧
      field w 31 18 = 0) ∧
    (∃ w : Word, s.hostRead (BitVec.ofNat 20 (0x80110 + l.val * 0x20)) 0xF#4 = s.ended .done (some w) ∧
      field w 15 0 = (s.link l).fault.data.toNat ∧ field w 31 16 = 0) ∧
    (∀ (offset : Nat) (d : Word), offset = 0x00 ∨ offset = 0x0C ∨ offset = 0x10 →
      exec (.registerWrite (BitVec.ofNat 20 (0x80100 + l.val * 0x20 + offset)) 0xF#4 d) s = next (s.ended .error none)) ∧
    State.reset.hostRead (BitVec.ofNat 20 (0x80100 + l.val * 0x20)) 0xF#4 = State.reset.ended .done (some 0#32) ∧
    let r := (s.resetLink l).link l
    r.state = .off ∧ r.haltReason = (s.link l).haltReason ∧ r.position = (s.link l).position ∧
      r.dropped = (s.link l).dropped ∧ r.queue = [] ∧ r.demand = .empty ∧ r.blockedRun = 0

/-! ## Host windows -/

/-- WINDOW_WRITE by the checks of Table 63 (R138), with the enqueue it hands to the entry of its key (R37, R139). -/
def Obligations.WindowWrite : Prop :=
  ∀ (s : State) (base : Nat) (l : LinkNo) (n : Fin 64) (reg : RegNo) (d : Word), s.rstLow = false →
    base = 0 ∨ base = 0x40000 →
    let missing := ∃ st : StationNo, st.val = n.val ∧ (s.station l st).standing = .missing
    let write := exec (.windowWrite (windowAddr base l n.val reg) 0xF#4 d) s
    ((s.link l).state = .off → write = next (s.ended .error none)) ∧
    ((s.link l).state ≠ .off → missing → write = next (s.ended .error none)) ∧
    ((s.link l).state ≠ .off → ¬ missing → 16 ≤ (s.link l).queue.length → write = next (s.ended .retry none)) ∧
    ((s.link l).state ≠ .off → ¬ missing → (s.link l).queue.length < 16 →
      write =
        next ((({ s.updLink l (fun k => { k with
            queue := k.queue ++ [⟨destOf (BitVec.ofNat 6 n.val), reg, d.extractLsb' 0 16, false⟩] }) with
          table := s.table.map (fun e =>
            if e.key.link = l ∧ e.key.station.val = n.val ∧ e.key.register = reg then
              { e with
                value := d.extractLsb' 0 16, pending := e.pending + 1,
                doubt := if e.state = .writing then e.doubt else false, state := .writing }
            else e) } : State).ended .done none).arbitrate l))

/-- LOOKUP: a cached-window read of a watched key answers from its entry and changes nothing (R150, R151, R22). -/
def Obligations.LookupAnswersFromTheEntry : Prop :=
  ∀ (s : State) (e : Entry), s.rstLow = false → s.find e.key = some e →
    ∃ w : Word, ∃ stale : Bool, (stale = true ↔ IsStale e) ∧
      IsResponse w e.value (stateCode e.state) stale (s.listed e.key) e.age ∧
      exec (.lookup (windowAddr 0 e.key.link e.key.station.val e.key.register) 0xF#4) s = next (s.ended .done (some w))

/-- DEMAND_READ by the checks of Table 70, from the direct window or for an unwatched key from the cached one (R154), with
the delivery of a result (R157). Check 2 is in AddressMap. -/
def Obligations.DemandReadAnswers : Prop :=
  ∀ (s : State) (base : Nat) (k : Key), s.rstLow = false →
    base = 0x40000 ∨ (base = 0 ∧ ∀ e ∈ s.table, e.key ≠ k) →
    let slot := (s.link k.link).demand
    let read := exec (.demandRead (windowAddr base k.link k.station.val k.register) 0xF#4) s
    let left := (s.station k.link k.station).standing
    (∀ v n, slot = .ready k (some v) n →
      ∃ w : Word,
        (∀ e, s.find k = some e → IsResponse w v (stateCode e.state) false (s.listed k) 0) ∧
        ((∀ e ∈ s.table, e.key ≠ k) → IsResponse w v 7 false false 0) ∧
        read = next ((s.updLink k.link (fun c => { c with demand := .empty })).ended .done (some w))) ∧
    (∀ n, slot = .ready k none n →
      read = next ((s.updLink k.link (fun c => { c with demand := .empty })).ended .error none)) ∧
    ((∀ r n, slot ≠ .ready k r n) → (s.link k.link).state ≠ .running → read = next (s.ended .error none)) ∧
    ((∀ r n, slot ≠ .ready k r n) → (s.link k.link).state = .running → (left = .missing ∨ ∃ h, left = .held h) →
      read = next (s.ended .error none)) ∧
    (slot = .empty → (s.link k.link).state = .running → left = .unseen ∨ left = .present →
      read = next (((s.updLink k.link (fun c => { c with demand := .waiting k })).ended .retry none).arbitrate k.link)) ∧
    ((∀ r n, slot ≠ .ready k r n) → slot ≠ .empty → (s.link k.link).state = .running → left = .unseen ∨ left = .present →
      read = next (s.ended .retry none))

/-! ## The change list, notices and events -/

/-- TAKE (R56, R57, Tables 25 and 77). -/
def Obligations.TakeRemovesTheOldest : Prop :=
  (∀ s : State, s.rstLow = false → s.list = [] → exec (.take 0xF#4) s = next (s.ended .done (some 0#32))) ∧
  ∀ (s : State) (r : ChangeRecord) (rest : List ChangeRecord) (e : Entry), s.rstLow = false → s.list = r :: rest →
    s.find r.key = some e → r.count ≤ 15 →
    ∃ w t1 t2 t3 : Word,
      (field w 7 0 = r.key.register.toNat ∧ field w 13 8 = r.key.station.val ∧ field w 15 14 = r.key.link.val ∧
        field w 23 16 = 0 ∧ field w 27 24 = r.count ∧ field w 30 28 = 0 ∧ field w 31 31 = 1) ∧
      (field t1 15 0 = r.oldValue.toNat ∧ field t1 23 16 = r.reasons.toNat ∧ field t1 31 24 = 0) ∧
      (∀ rs, r.reasons = reasonSet rs → ∀ x, t1.getLsbD (16 + reasonPlace x) = decide (x ∈ rs)) ∧
      (∃ stale : Bool, (stale = true ↔ IsStale e) ∧ IsResponse t2 e.value (stateCode e.state) stale false e.age) ∧
      (field t3 9 0 = rest.length % 1024 ∧ field t3 31 10 = 0) ∧
      exec (.take 0xF#4) s =
        next (({ s with
          list := rest, taken := #v[t1, t2, t3], lingered := false,
          lingerTimer := lingerStart s.linger rest } : State).ended .done (some w))

/-- NOTICE_CTL_WRITE (R60, R63), and the word NOTICE_CTL. -/
def Obligations.NoticeCtl : Prop :=
  (∀ (s : State) (d : Word), s.rstLow = false →
    (field d 7 0 = 0 → exec (.noticeCtlWrite 0xF#4 d) s = next (s.ended .error none)) ∧
    (field d 7 0 ≠ 0 →
      let kept := field d 15 8 = s.linger.toNat
      exec (.noticeCtlWrite 0xF#4 d) s =
        next (({ s with
          noticeEnable := d.getLsbD 16, threshold := d.extractLsb' 0 8, linger := d.extractLsb' 8 8,
          lingered := if kept then s.lingered else false,
          lingerTimer :=
            if kept then s.lingerTimer
            else if s.list = [] ∨ field d 15 8 = 0 then none else some ⟨field d 15 8, 0⟩ } : State).ended .done none)) ∧
    ∃ w : Word, s.hostRead 0x80044#20 0xF#4 = s.ended .done (some w) ∧ field w 7 0 = s.threshold.toNat ∧
      field w 15 8 = s.linger.toNat ∧ field w 16 16 = s.noticeEnable.toNat ∧ field w 31 17 = 0) ∧
  (State.reset.noticeEnable = false ∧ State.reset.threshold = 1#8 ∧ State.reset.linger = 0#8) ∧
  ∀ (s : State) (l : LinkNo), (s.resetLink l).noticeEnable = s.noticeEnable ∧ (s.resetLink l).threshold = s.threshold ∧
    (s.resetLink l).linger = s.linger

/-- LINK_EVENTS_WRITE and LINK_ENABLES_WRITE, and what the two words read (R66, R67). -/
def Obligations.LinkEventAndEnableWords : Prop :=
  ∀ (s : State) (l : LinkNo) (d : Word), s.rstLow = false →
    (exec (.linkEventsWrite l 0xF#4 d) s =
      next ((s.updLink l (fun k => { k with events := k.events &&& ~~~(d.extractLsb' 0 6) })).ended .done none) ∧
    exec (.linkEnablesWrite l 0xF#4 d) s =
      next ((s.updLink l (fun k => { k with enables := d.extractLsb' 0 6 })).ended .done none)) ∧
    (∃ w : Word, s.hostRead (BitVec.ofNat 20 (0x80104 + l.val * 0x20)) 0xF#4 = s.ended .done (some w) ∧
      field w 5 0 = (s.link l).events.toNat ∧ field w 31 6 = 0) ∧
    (∃ w : Word, s.hostRead (BitVec.ofNat 20 (0x80108 + l.val * 0x20)) 0xF#4 = s.ended .done (some w) ∧
      field w 5 0 = (s.link l).enables.toNat ∧ field w 31 6 = 0) ∧
    (State.reset.link l).enables = 0#6 ∧ ((s.resetLink l).link l).enables = (s.link l).enables

/-- LIST_STATUS (R59), the notice condition (R64) and ATTN (R68). -/
def Obligations.NoticesAndAttn : Prop :=
  (∀ s : State, s.rstLow = false →
    (∃ w : Word, s.hostRead 0x80040#20 0xF#4 = s.ended .done (some w) ∧ field w 9 0 = s.list.length % 1024 ∧
      field w 15 10 = 0 ∧ field w 16 16 = s.noticeCondition.toNat ∧ field w 17 17 = s.lingered.toNat ∧ field w 31 18 = 0) ∧
    ∀ d : Word, exec (.registerWrite 0x80040#20 0xF#4 d) s = next (s.ended .error none)) ∧
  State.reset.hostRead 0x80040#20 0xF#4 = State.reset.ended .done (some 0#32) ∧
  (∀ s : State, s.noticeCondition = true ↔
    s.noticeEnable = true ∧ (s.threshold.toNat ≤ s.list.length ∨ (s.linger ≠ 0#8 ∧ s.lingered = true))) ∧
  ∀ s : State, s.attn = true ↔
    s.rstLow = false ∧ (s.noticeCondition = true ∨
      ∃ (l : LinkNo) (i : Nat), (s.link l).events.getLsbD i = true ∧ (s.link l).enables.getLsbD i = true)

/-- What a set of reasons holds (R51, Table 77), what a listing does (R52, R53), and the order of the listings of one event: records already held keep their places and
gather the reasons, and the new records follow in ascending table position (R54); an event that lists on an empty list
starts the linger timer, or leaves it stopped when linger is off (R61); and nothing else changes. -/
def Obligations.ListingsOfOneEvent : Prop :=
  (∀ (rs : List Reason) (x : Reason), (reasonSet rs).getLsbD (reasonPlace x) = decide (x ∈ rs)) ∧
  (∀ (s : State) (k : Key) (rs : List Reason) (old : Value),
    ((∀ r ∈ s.list, r.key ≠ k) →
      s.listing k rs old =
        { s with
          list := s.list ++ [⟨k, reasonSet rs, old, min 15 rs.length⟩]
          lingered := if s.list = [] then false else s.lingered
          lingerTimer :=
            if s.list = [] then (if s.linger = 0#8 then none else some ⟨s.linger.toNat, 0⟩) else s.lingerTimer }) ∧
    ((∃ r ∈ s.list, r.key = k) →
      s.listing k rs old =
        { s with
          list := s.list.map (fun r =>
            if r.key = k then { r with reasons := r.reasons ||| reasonSet rs, count := min 15 (r.count + rs.length) }
            else r) })) ∧
  ∀ (s : State) (p : Entry → Bool) (f : Entry → Entry × List Reason), s.TableSound →
    let lists : Entry → Bool := fun e => p e && !(f e).2.isEmpty
    let starts : Bool := s.list.isEmpty && s.table.any lists
    s.entryEvent p f =
      { s with
        table := s.table.map (fun e => if p e then (f e).1 else e)
        list :=
          s.list.map (fun r =>
            match s.find r.key with
            | some e =>
              if lists e then
                { r with reasons := r.reasons ||| reasonSet (f e).2, count := min 15 (r.count + (f e).2.length) }
              else r
            | none => r) ++
          (s.table.filter (fun e => lists e && !s.listed e.key)).map (fun e =>
            ⟨e.key, reasonSet (f e).2, e.value, min 15 (f e).2.length⟩)
        lingered := if starts then false else s.lingered
        lingerTimer :=
          if starts then (if s.linger = 0#8 then none else some ⟨s.linger.toNat, 0⟩) else s.lingerTimer } ∧
    (s.table.filter lists).Pairwise (fun a b => a.pos < b.pos)

/-! ## Ticks, expiries and the line

The equations for whole next states, here and in the next section, leave HTERM and HD as the last host access left them:
that is the model's choice (notes/assumptions/20.md). -/

/-- SLOT_TICK of a RUNNING link (R70 to R73, R79, R21, R131, R159). The slot timer of a link that is not RUNNING does not run
(R71); that the row then changes nothing is the model's choice (notes/assumptions/2.md). That the pick comes last and sees all of the tick is the model's reading (notes/assumptions/7.md). That the tick itself ends holds and lifetimes
beside the rows HOLD_EXPIRY and DEMAND_EXPIRY, and that a station whose hold HOLD_EXPIRY ended ahead of the tick counts as
still held in the overrun check, is the model's reading too (notes/assumptions/6.md). -/
def Obligations.SlotTick : Prop :=
  (∀ (s : State) (l : LinkNo), (s.link l).state ≠ .running → exec (.slotTick l) s = next s) ∧
  ∀ (s : State) (l : LinkNo), (s.link l).state = .running →
    let k := s.link l
    let counts : BatchItem → Prop := fun i =>
      match i with
      | .poll key => ∃ e, s.find key = some e ∧ e.state ≠ .writing ∧ e.state ≠ .refused ∧ e.state ≠ .orphaned ∧
          ((s.station l key.station).standing = .unseen ∨ (s.station l key.station).standing = .present) ∧
          key.station ∉ k.endedHolds
      | .probe st => (s.station l st).standing = .missing
    let expires : Prop := ∃ key v, k.demand = .ready key v 1
    let counted : State := s.updLink l (fun c => { c with stations := c.stations.map StationRecord.tick })
    ∃ check : BatchItem → Bool, (∀ i, check i = true ↔ counts i) ∧
    let dropped := k.batch.countP check
    ∃ (t : State) (demand : DemandSlot) (events : BitVec 6),
      exec (.slotTick l) s = next (t.arbitrate l) ∧
      t = { s.updLink l (fun c =>
            { c with
              position := c.position + 1, slotTimer := .running ⟨64 * c.slotSetting, 0⟩,
              dropped := if dropped = 0 then c.dropped else dropped, events := events, demand := demand,
              stations := c.stations.map StationRecord.tick, endedHolds := [],
              batch := counted.capture l (c.position + 1) }) with
          table := s.table.map (fun e => if e.key.link = l then { e with age := min 255 (e.age + 1) } else e) } ∧
      (events.getLsbD 2 = (k.events.getLsbD 2 || dropped != 0)) ∧
      (events.getLsbD 3 = true ↔ k.events.getLsbD 3 = true ∨ expires ∨ ∃ key v, k.demand = .ready key v 0) ∧
      (∀ i, i ≠ 2 → i ≠ 3 → events.getLsbD i = k.events.getLsbD i) ∧
      (∀ key v n, k.demand = .ready key v n → demand = if n ≤ 1 then .empty else .ready key v (n - 1)) ∧
      ((∀ key v n, k.demand ≠ .ready key v n) → demand = k.demand)

/-- What a capture gathers (R74, R75): at position 0 the probes of the MISSING stations with entries, in ascending order;
then the due polls in ascending order of station and register, each once. -/
def Obligations.CaptureGathersTheDue : Prop :=
  ∀ (s : State) (l : LinkNo) (position : Fin 64), s.TableSound →
    ∃ (stations : List StationNo) (keys : List Key),
      s.capture l position = stations.map BatchItem.probe ++ keys.map BatchItem.poll ∧
      stations.Pairwise (· < ·) ∧
      keys.Pairwise (fun a b => a.station.val * 256 + a.register.toNat < b.station.val * 256 + b.register.toNat) ∧
      (∀ st, st ∈ stations ↔
        position.val = 0 ∧ (s.station l st).standing = .missing ∧ ∃ e ∈ s.table, e.key.link = l ∧ e.key.station = st) ∧
      ∀ k, k ∈ keys ↔
        k.link = l ∧ ∃ e ∈ s.table, e.key = k ∧
          ((s.station l k.station).standing = .unseen ∨ (s.station l k.station).standing = .present) ∧
          (e.state = .priming ∨ e.state = .settling ∨ e.state = .doubtful ∨
            (e.state = .valid ∧ e.periodCode.val ≠ 0 ∧ position.val % 2 ^ (e.periodCode.val - 1) = e.phase.val))

/-- Holds and demand lifetimes as they run out (R131, R159): what a tick makes of a station record, and HOLD_EXPIRY and
DEMAND_EXPIRY as events of their own; that these may come ahead of the rest of the tick is the model's reading
(notes/assumptions/6.md). LINGER_EXPIRY (R62): the timer stops and the indicator is set, and with linger on the notice
condition then holds exactly while notices are enabled. -/
def Obligations.Expiries : Prop :=
  (∀ r : StationRecord,
    (∀ src n, r.standing = .held ⟨src, some n⟩ →
      r.tick = { r with standing := if n ≤ 1 then (if r.seen then .present else .unseen) else .held ⟨src, some (n - 1)⟩ }) ∧
    ((∀ src n, r.standing ≠ .held ⟨src, some n⟩) → r.tick = r)) ∧
  (∀ (s : State) (l : LinkNo) (st : StationNo) (src : HoldSource), (s.link l).state = .running →
    (s.station l st).standing = .held ⟨src, some 1⟩ →
    exec (.holdExpiry l st) s =
      next ((s.updLink l (fun k =>
        { k.withRecord st { k.station st with standing := if (k.station st).seen then .present else .unseen } with
          endedHolds := st :: k.endedHolds })).arbitrate l)) ∧
  (∀ (s : State) (l : LinkNo) (key : Key) (v : Option Value), (s.link l).state = .running →
    (s.link l).demand = .ready key v 1 →
    exec (.demandExpiry l) s = next (s.updLink l (fun k => { k with demand := .empty, events := k.events ||| 0x08#6 }))) ∧
  ∀ (s : State) (t : Timer), s.lingerTimer = some t →
    ∃ u, exec .lingerExpiry s = next u ∧ u = { s with lingerTimer := none, lingered := true } ∧
      (s.linger ≠ 0#8 → u.noticeCondition = s.noticeEnable)

/-- The start of a transaction on the line (R99, R114): the first lead begins at once, or the transaction waits out the gap
or quiet time that runs. GAP_END and QUIET_TIME_END begin the attempt the rest kept back, if any (R114, R120), and
REQUEST_SENT_WHOLE opens the turnaround (R111, R112). That the attempt number rises at the lead of the retry is the model's
reading (notes/assumptions/19.md). -/
def Obligations.PhasesOfTheLine : Prop :=
  (∀ (n : LineState) (tx : Transaction),
    (n.rest = .none → n.issue tx = ⟨.request, 1, false, [], .none, ⟨if tx.isRead then 30 else 46, 0⟩⟩) ∧
    (n.rest ≠ .none → n.issue tx = ⟨.wait, 1, false, [], n.rest, n.timer⟩)) ∧
  (∀ (s : State) (l : LinkNo) (rest : Rest), s.rstLow = false → (s.link l).line.rest = rest →
    let ends := if rest = .gap then exec (.gapEnd l) s else exec (.quietTimeEnd l) s
    let n := (s.link l).line
    let lead : Transaction → Nat → State := fun tx attempt => s.updLink l (fun k => { k with
      line := { k.line with
        phase := .request, attempt := attempt, sentWhole := false, reply := [], rest := .none,
        timer := ⟨if tx.isRead then 30 else 46, 0⟩ } })
    rest ≠ .none →
    (∀ tx, (s.link l).inFlight = some tx → n.phase = .gap → ends = next (lead tx (n.attempt + 1))) ∧
    (∀ tx, (s.link l).inFlight = some tx → n.phase = .wait → ends = next (lead tx 1)) ∧
    ((s.link l).inFlight = none → n.phase = .idle →
      ends = next (s.updLink l (fun k => { k with line := { k.line with rest := .none, timer := ⟨0, 0⟩ } })))) ∧
  ∀ (s : State) (l : LinkNo) (tx : Transaction) (st : StationNo), (s.link l).inFlight = some tx → tx.station? = some st →
    (s.link l).line.phase = .request →
    exec (.requestSentWhole l) s =
      next (s.updLink l (fun k => { k with
        line := { k.line with phase := .turnaround, sentWhole := true, timer := ⟨2, 0⟩ } }))

/-! ## Attempts and completions

What an attempt is told of the stations, and that the row ATTEMPT_END ends it at once, is the model's choice
(notes/assumptions/13.md), and so is that a completion clears the sent-whole indicator, and the end of an attempt the
reply bits (notes/assumptions/22.md). -/

/-- The attempts that are followed by another (Tables 47, 49 and 51): CONTENDED ones of any transaction, and SILENT and
GARBLED ones of a read, while attempts remain. The gap runs and nothing else changes (R114). That the attempt number and the sent-whole indicator
stay as they are until the lead of the next attempt is the model's reading (notes/assumptions/19.md); that the reply bits
are cleared is its choice (notes/assumptions/22.md). -/
def Obligations.AttemptIsRetried : Prop :=
  ∀ (s : State) (l : LinkNo) (tx : Transaction) (sld : List Bool) (c : AttemptClass), Attempting s l tx sld c →
    c = .contended ∨ (tx.isRead = true ∧ (c = .silent ∨ c = .garbled)) → ¬ LastAttempt s l →
    exec (.attemptEnd l sld) s =
      next (s.updLink l (fun k => { k with
        line := { k.line with phase := .gap, reply := [], rest := .gap, timer := ⟨2, 0⟩ } }))

/-- The completion of a poll or a demand read of a key that holds and loses no station (R102, R115, R125, R127, R156), on a
link in any state: the line freed, the blocked run, the station record, the demand slot, the read result handed to the
entry, and then a pick, or the halt that the completion brings (R93, R104). -/
def Obligations.ReadCompletes : Prop :=
  ∀ (s : State) (key : Key) (tx : Transaction) (sld : List Bool) (c : AttemptClass),
    let l := key.link
    let r := s.station l key.station
    Attempting s l tx sld c →
    (tx = .poll key.station key.register ∨
      (tx = .demandRead key.station key.register ∧ (s.link l).demand = .inFlight key)) →
    (∃ v, c = .ack v) ∨ c = .reject ∨ (LastAttempt s l ∧ c = .garbled) ∨
      (LastAttempt s l ∧ c = .contended ∧ (s.link l).blockedRun ≤ 3) ∨
      (LastAttempt s l ∧ c = .silent ∧ ¬ r.IsLost (s.link l).missLimit) →
    let record : StationRecord :=
      match c with
      | .ack _ | .reject => r.replied
      | .silent => { r with misses := min 15 (r.misses + 1) }
      | .garbled | .contended | .hold _ | .sentWhole => r
    let result : Option Value := match c with | .ack v => some v | _ => none
    let change : Entry → Entry × List Reason := fun e =>
      match c with
      | .ack v => e.onAck v
      | .reject => e.onRejected
      | _ => e.onFailedRead
    exec (.attemptEnd l sld) s =
      next (((s.updLink l (fun k =>
        { (k.freed (if c = .contended then k.blockedRun + 1 else 0)).withRecord key.station record with
          demand := if tx = .poll key.station key.register then k.demand else .ready key result 16 })).keyEvent key
        change).finished l)

/-- Read results applied to an entry, by state and outcome (Table 17, R31 to R35, R8), and write completions (R38, R39). -/
def Obligations.OutcomesAtAnEntry : Prop :=
  (∀ (e : Entry) (v : Value),
    let differs := ∃ i, i < 16 ∧ e.mask.getLsbD i = true ∧ e.value.getLsbD i ≠ v.getLsbD i
    let valid : Entry := { e with state := .valid, value := v, age := 0, failing := false }
    (e.state = .priming → e.onAck v = (valid, if e.noteFirst then [.first] else [])) ∧
    (e.state = .valid ∨ e.state = .settling ∨ e.state = .doubtful ∨ e.state = .refused →
      (differs → e.onAck v = (valid, [.changed])) ∧ (¬ differs → e.onAck v = (valid, []))) ∧
    (e.state = .priming ∨ e.state = .valid ∨ e.state = .settling ∨ e.state = .doubtful →
      e.onRejected = ({ e with state := .refused, failing := false }, [.refused])) ∧
    (e.state = .refused → e.onRejected = ({ e with failing := false }, [])) ∧
    (e.state ≠ .writing →
      e.onFailedRead = ({ e with failing := true }, if e.failing then [] else [.pollFailed])) ∧
    (e.state = .writing ∨ e.state = .orphaned → e.onAck v = (e, []) ∧ e.onRejected = (e, [])) ∧
    (e.state = .writing → e.onFailedRead = (e, [])) ∧
    ∀ q, e.onReadResult (.heldOff q) = (e, [])) ∧
  ∀ e : Entry,
    (∀ o, e.pending = 0 → e.onWriteCompletion o = (e, [])) ∧
    ∀ (o : FinalOutcome) (bad : Bool) (rs : List Reason), 0 < e.pending →
      (o, bad, rs) ∈ [(.ok, false, []), (.rejected, true, [.writeFailed]), (.blocked, true, [.writeFailed]),
        (.unknown, true, [.writeUnknown])] →
      e.onWriteCompletion o =
        ({ e with
            pending := e.pending - 1
            doubt := e.doubt || bad
            state := if e.pending = 1 then (if e.doubt = true ∨ bad = true then .doubtful else .settling) else e.state },
          rs)

/-- The completion of a write to a station that holds and loses no station (R102, R116, R142, R148), on a link in any state:
the head leaves the queue, a bad outcome writes the fault record and raises WRITE_FAULT, the entry takes the write
completion, and then comes a pick, or the halt that the completion brings (R93, R104). -/
def Obligations.WriteCompletes : Prop :=
  ∀ (s : State) (key : Key) (d : Value) (behind : List WriteRecord) (sld : List Bool) (c : AttemptClass),
    let l := key.link
    let r := s.station l key.station
    Attempting s l (.write key.station key.register d) sld c →
    (s.link l).queue = ⟨.station key.station, key.register, d, true⟩ :: behind →
    (∃ v, c = .ack v) ∨ c = .reject ∨ c = .garbled ∨
      (c = .contended ∧ LastAttempt s l ∧ (s.link l).blockedRun ≤ 3) ∨
      (c = .silent ∧ ¬ r.IsLost (s.link l).missLimit) →
    let record : StationRecord :=
      match c with
      | .ack _ | .reject => r.replied
      | .silent => { r with misses := min 15 (r.misses + 1) }
      | .garbled | .contended | .hold _ | .sentWhole => r
    let outcome : FinalOutcome :=
      match c with
      | .ack _ => .ok
      | .reject => .rejected
      | .contended => .blocked
      | _ => .unknown
    let bad : Option FaultOutcome :=
      match c with
      | .ack _ => none
      | .reject => some .rejected
      | .contended => some .blocked
      | _ => some .unknown
    exec (.attemptEnd l sld) s =
      next (((s.updLink l (fun k =>
        { (k.freed (if c = .contended then k.blockedRun + 1 else 0)).withRecord key.station record with
          queue := behind,
          fault := (match bad with | none => k.fault | some o => ⟨.station key.station, key.register, d, o⟩),
          events := if bad = none then k.events else k.events ||| 0x10#6 })).keyEvent key
        (Entry.onWriteCompletion outcome)).finished l)

/-- A HOLD reply to a poll, a demand read or a write, on a link in any state (R117, R126, R143): the station is HELD for its quanta, or keeps the
host's hold; the write stays at the head; the table takes nothing; the blocked run is over (R104). On a record already
held by the station R126 gives no remaining time: it is some legal time, and which one is free
(notes/assumptions/5.md). -/
def Obligations.HoldReplyHoldsTheStation : Prop :=
  ∀ (s : State) (l : LinkNo) (st : StationNo) (reg : RegNo) (tx : Transaction) (q : BitVec 8) (sld : List Bool),
    Attempting s l tx sld (.hold q) →
    (tx = .poll st reg ∨ tx = .demandRead st reg ∨ ∃ d, tx = .write st reg d) →
    (tx = .demandRead st reg → (s.link l).demand = .inFlight ⟨l, st, reg⟩) →
    let r := s.station l st
    let rest : Link → Link := fun k =>
      { k.freed 0 with
        queue := if tx.isRead then k.queue else k.queue.map (fun w => { w with inFlight := false }) }
    (r.standing = .unseen ∨ r.standing = .present →
      exec (.attemptEnd l sld) s =
        next ((s.updLink l (fun k =>
          { (rest k).withRecord st ⟨.held ⟨.station, some q.toNat⟩, 0, true⟩ with
            demand := if tx = .demandRead st reg then .ready ⟨l, st, reg⟩ none 16 else k.demand.failedFor st })).finished
          l)) ∧
    (∀ n, r.standing = .held ⟨.host, n⟩ →
      exec (.attemptEnd l sld) s =
        next ((s.updLink l (fun k =>
          { (rest k).withRecord st ⟨.held ⟨.host, n⟩, 0, true⟩ with
            demand := if tx = .demandRead st reg then .ready ⟨l, st, reg⟩ none 16 else k.demand })).finished l)) ∧
    (∀ n, r.standing = .held ⟨.station, n⟩ → ∃ m, 1 ≤ m ∧ m ≤ 65535 ∧
      exec (.attemptEnd l sld) s =
        next (({ s.updLink l (fun k =>
          { (rest k).withRecord st ⟨.held ⟨.station, some m⟩, 0, true⟩ with
            demand := if tx = .demandRead st reg then .ready ⟨l, st, reg⟩ none 16 else k.demand }) with
          choices := s.choices + 1 } : State).finished l))

/-- The completion of a broadcast, on a link in any state (R41, R118, R145): SENT marks the VALID and SETTLING entries of the register, on every
station of the link, and lists nothing; BLOCKED writes the fault record. -/
def Obligations.BroadcastCompletes : Prop :=
  ∀ (s : State) (l : LinkNo) (reg : RegNo) (d : Value) (behind : List WriteRecord) (sld : List Bool) (c : AttemptClass),
    Attempting s l (.broadcast reg d) sld c →
    (s.link l).queue = ⟨.broadcast, reg, d, true⟩ :: behind →
    (c = .sentWhole →
      exec (.attemptEnd l sld) s =
        next (({ s.updLink l (fun k => { k.freed 0 with queue := behind }) with
          table := s.table.map (fun e =>
            if e.key.link = l ∧ e.key.register = reg ∧ (e.state = .valid ∨ e.state = .settling) then
              { e with state := .doubtful }
            else e) } : State).finished l)) ∧
    (c = .contended → LastAttempt s l → (s.link l).blockedRun ≤ 3 →
      exec (.attemptEnd l sld) s =
        next ((s.updLink l (fun k =>
          { k.freed (k.blockedRun + 1) with
            queue := behind, fault := ⟨.broadcast, reg, d, .blocked⟩, events := k.events ||| 0x10#6 })).finished l))

/-- The loss of a station by a silence that reaches the miss limit, on a link in any state (R127, R128): the record becomes MISSING, the queue
loses the station's records, a WAITING request for it fails, STATION_LOST is latched and the station's entries are
orphaned (R42, R146). The outcome and the loss reach the entry of the key in one of the two orders of R43; which one is
free (notes/assumptions/3.md). -/
def Obligations.StationIsLost : Prop :=
  ∀ (s : State) (key : Key) (tx : Transaction) (sld : List Bool),
    let l := key.link
    let r := s.station l key.station
    Attempting s l tx sld .silent → r.IsLost (s.link l).missLimit →
    (LastAttempt s l ∧ tx = .poll key.station key.register) ∨
      (LastAttempt s l ∧ tx = .demandRead key.station key.register ∧ (s.link l).demand = .inFlight key) ∨
      (∃ d behind, tx = .write key.station key.register d ∧
        (s.link l).queue = ⟨.station key.station, key.register, d, true⟩ :: behind) →
    let fault : WriteFault → WriteFault := fun f =>
      match tx with
      | .write st reg d => ⟨.station st, reg, d, .unknown⟩
      | _ => f
    let column : State := s.updLink l (fun k =>
      { (k.freed 0).withRecord key.station { r with standing := .missing, misses := min 15 (r.misses + 1) } with
        queue := k.queue.filter (fun w => w.dest != .station key.station),
        demand :=
          if tx = .demandRead key.station key.register then .ready key none 16 else k.demand.failedFor key.station,
        fault := fault k.fault,
        events := k.events ||| (if tx.isRead then 0x01#6 else 0x11#6) })
    let own : Entry → Entry × List Reason := fun e =>
      if tx.isRead then e.onFailedRead else e.onWriteCompletion .unknown
    let ofStation : Entry → Bool := fun e => e.key.link == l && e.key.station == key.station
    let outcomeFirst := (column.keyEvent key own).entryEvent ofStation Entry.lost
    let lossFirst := (column.entryEvent ofStation Entry.lost).keyEvent key own
    exec (.attemptEnd l sld) s = next (({ outcomeFirst with choices := s.choices + 1 } : State).finished l) ∨
    exec (.attemptEnd l sld) s = next (({ lossFirst with choices := s.choices + 1 } : State).finished l)

/-- The completion of a probe, on a link in any state (R130, R44). Of a station that is still MISSING: an ACK, REJECT or HOLD
revives the station and its entries with RECOVERED; a silence counts a miss; CORRUPT and BLOCKED leave the record as it is.
Of a station that a FORGET has made other than MISSING meanwhile: the record takes the outcome as from any read (R125 to
R127), with no STATION_FOUND and no RECOVERED; a hold over the station's own hold leaves some legal time, which is free
(notes/assumptions/5.md). -/
def Obligations.ProbeCompletes : Prop :=
  ∀ (s : State) (l : LinkNo) (st : StationNo) (sld : List Bool) (c : AttemptClass), Attempting s l (.probe st) sld c →
    let r := s.station l st
    let ends := exec (.attemptEnd l sld) s
    let ofStation : Entry → Bool := fun e => e.key.link == l && e.key.station == st
    let revived : State → State := fun u =>
      u.entryEvent ofStation (fun e =>
        if e.state = .orphaned then ({ e with state := .priming }, [.recovered]) else (e, []))
    let record : StationRecord → State := fun x => s.updLink l (fun k => (k.freed 0).withRecord st x)
    (r.standing = .missing → (∃ v, c = .ack v) ∨ c = .reject →
      ends = next ((revived (s.updLink l (fun k =>
        { (k.freed 0).withRecord st ⟨.present, 0, true⟩ with events := k.events ||| 0x02#6 }))).finished l)) ∧
    (∀ q, r.standing = .missing → c = .hold q →
      ends = next ((revived (s.updLink l (fun k =>
        { (k.freed 0).withRecord st ⟨.held ⟨.station, some q.toNat⟩, 0, true⟩ with
          events := k.events ||| 0x02#6, demand := k.demand.failedFor st }))).finished l)) ∧
    (c = .silent → LastAttempt s l → ¬ r.IsLost (s.link l).missLimit →
      ends = next ((record { r with misses := min 15 (r.misses + 1) }).finished l)) ∧
    (c = .garbled → LastAttempt s l → ends = next ((s.updLink l (fun k => k.freed 0)).finished l)) ∧
    (c = .contended → LastAttempt s l → (s.link l).blockedRun ≤ 3 →
      ends = next ((s.updLink l (fun k => k.freed (k.blockedRun + 1))).finished l)) ∧
    (r.standing ≠ .missing → (∃ v, c = .ack v) ∨ c = .reject → ends = next ((record r.replied).finished l)) ∧
    (∀ q, r.standing = .unseen ∨ r.standing = .present → c = .hold q →
      ends = next ((s.updLink l (fun k =>
        { (k.freed 0).withRecord st ⟨.held ⟨.station, some q.toNat⟩, 0, true⟩ with
          demand := k.demand.failedFor st })).finished l)) ∧
    (∀ q n, r.standing = .held ⟨.host, n⟩ → c = .hold q →
      ends = next ((record ⟨.held ⟨.host, n⟩, 0, true⟩).finished l)) ∧
    (∀ q n, r.standing = .held ⟨.station, n⟩ → c = .hold q → ∃ m, 1 ≤ m ∧ m ≤ 65535 ∧
      ends = next (({ record ⟨.held ⟨.station, some m⟩, 0, true⟩ with choices := s.choices + 1 } : State).finished l)) ∧
    (c = .silent → LastAttempt s l → r.IsLost (s.link l).missLimit →
      ends = next (({ (s.updLink l (fun k =>
        { (k.freed 0).withRecord st { r with standing := .missing, misses := min 15 (r.misses + 1) } with
          queue := k.queue.filter (fun w => w.dest != .station st),
          demand := k.demand.failedFor st,
          events := k.events ||| 0x01#6 })).entryEvent ofStation Entry.lost with
        choices := s.choices + 1 } : State).finished l))

/-- The completions that halt a link: the fourth BLOCKED in a row, from RUNNING or STOPPING, by line fault (R104), and any
other completion of a STOPPING link by the host's stop (R93). The link enters HALTED (R92) and nothing is picked. What the
outcome does to its owners is in the statements on completions, which hold on a link in any state. -/
def Obligations.CompletionsThatHalt : Prop :=
  ∀ (s : State) (l : LinkNo) (tx : Transaction) (sld : List Bool) (c : AttemptClass), Attempting s l tx sld c →
    (tx.isBroadcast = true → c = .contended ∨ c = .sentWhole) →
    LastAttempt s l ∨ (c ≠ .contended ∧ (tx.isRead = true → c ≠ .silent ∧ c ≠ .garbled)) →
    let fourth := c = .contended ∧ (s.link l).blockedRun = 3
    fourth ∧ ((s.link l).state = .running ∨ (s.link l).state = .stopping) ∨
      ¬ fourth ∧ (s.link l).state = .stopping ∧ (s.link l).blockedRun ≤ 3 →
    ∃ t, exec (.attemptEnd l sld) s = next t ∧
      (t.link l).state = .halted ∧ ((t.link l).haltReason = .lineFault ↔ fourth) ∧
      ((t.link l).haltReason = .hostStop ↔ ¬ fourth) ∧ (t.link l).events.getLsbD 5 = true ∧
      (t.link l).slotTimer = .stopped ∧ (t.link l).inFlight = none ∧ (∀ key, (t.link l).demand ≠ .waiting key) ∧
      (t.link l).batch = (s.link l).batch ∧ (t.link l).position = (s.link l).position ∧
      (c = .contended → (t.link l).blockedRun = (s.link l).blockedRun + 1) ∧
      (c ≠ .contended → (t.link l).blockedRun = 0)

/-! ## The arbiter -/

/-- The pick (R97, R98, R99): a link picks only while RUNNING with the line free; the first eligible group after the pointer
is served, hands over its request and is named by the pointer; with no group eligible nothing changes. The draw discards
the failing items before the first passing one (R78). -/
def Obligations.ArbiterPick : Prop :=
  ∀ (s : State) (l : LinkNo),
    let k := s.link l
    let write := ∃ r behind, k.queue = r :: behind ∧
      (r.dest = .broadcast ∨ ∃ st, r.dest = .station st ∧ ∀ h, (s.station l st).standing ≠ .held h)
    let demand := ∃ key, k.demand = .waiting key
    let passing : BatchItem → Prop := fun i =>
      match i with
      | .poll key => ∃ e, s.find key = some e ∧ e.state ≠ .writing ∧ e.state ≠ .refused ∧ e.state ≠ .orphaned ∧
          ((s.station l key.station).standing = .unseen ∨ (s.station l key.station).standing = .present)
      | .probe st => (s.station l st).standing = .missing
    let poll := ∃ i ∈ k.batch, passing i
    let first (g : Group) : Prop :=
      match g, k.pointer with
      | .write, .poll => write
      | .write, .demand => write ∧ ¬ poll
      | .write, .write => write ∧ ¬ demand ∧ ¬ poll
      | .demand, .write => demand
      | .demand, .poll => demand ∧ ¬ write
      | .demand, .demand => demand ∧ ¬ poll ∧ ¬ write
      | .poll, .demand => poll
      | .poll, .write => poll ∧ ¬ demand
      | .poll, .poll => poll ∧ ¬ write ∧ ¬ demand
    (k.state ≠ .running ∨ k.inFlight ≠ none ∨ (¬ write ∧ ¬ demand ∧ ¬ poll) → s.arbitrate l = s) ∧
    (k.state = .running → k.inFlight = none →
      (∀ r behind, first .write → k.queue = r :: behind →
        let tx : Transaction :=
          match r.dest with
          | .station st => .write st r.register r.data
          | .broadcast => .broadcast r.register r.data
        s.arbitrate l = s.updLink l (fun c =>
          { c with
            pointer := .write, inFlight := some tx, queue := { r with inFlight := true } :: behind,
            line := c.line.issue tx })) ∧
      (∀ key, first .demand → k.demand = .waiting key →
        let tx : Transaction := .demandRead key.station key.register
        s.arbitrate l = s.updLink l (fun c =>
          { c with pointer := .demand, inFlight := some tx, demand := .inFlight key, line := c.line.issue tx })) ∧
      (∀ skipped i behind, first .poll → k.batch = skipped ++ i :: behind → (∀ x ∈ skipped, ¬ passing x) → passing i →
        let tx : Transaction := match i with | .poll key => .poll key.station key.register | .probe st => .probe st
        s.arbitrate l = s.updLink l (fun c =>
          { c with pointer := .poll, inFlight := some tx, batch := behind, line := c.line.issue tx })))

/-! ## Frames -/

/-- The request frame carries its transaction (R109, R110, Tables 42 and 81): the length, the lead and start bits, and each
field read back from its bit times; the bytes sum to FFh. The line pins send it (R107, R112): SLC toggles exactly in
REQUEST, TURNAROUND and REPLY, and the part holds SLD low exactly in the bit times of a frame under way whose bit is 0, the
start bits among them. -/
def Obligations.RequestFrameCarriesTheTransaction : Prop :=
  (∀ (s : State) (l : LinkNo), s.slcToggling l = true ↔ (s.link l).line.Attempts) ∧
  (∀ (s : State) (l : LinkNo), (s.link l).line.phase ≠ .request ∨ (s.link l).inFlight = none → s.sldDrivenLow l = false) ∧
  (∀ (s : State) (l : LinkNo) (tx : Transaction) (i : Nat), (s.link l).line.phase = .request →
    (s.link l).inFlight = some tx → i < tx.frame.length → (s.link l).line.timer.left + i = tx.frame.length →
    s.sldDrivenLow l = !tx.frame.getD i true) ∧
  ∀ tx : Transaction,
    let f := tx.frame
    (f.length = if tx.isRead then 30 else 46) ∧
    f.take 6 = [true, true, true, true, false, false] ∧
    sampled f 6 2 = (if tx.isRead then 3#2 else 2#2) ∧
    (∀ st, tx.station? = some st → (sampled f 8 6).toNat = st.val) ∧ (tx.station? = none → sampled f 8 6 = 63#6) ∧
    sampled f 14 8 = tx.register ∧
    (tx.isRead = false → sampled f 22 16 = tx.data ∧ sampled f 38 8 = tx.check) ∧
    (tx.isRead = true → sampled f 22 8 = tx.check) ∧
    (tx.operation.toNat + tx.stationNumber.toNat + tx.register.toNat + (hiByte tx.data).toNat + (loByte tx.data).toNat +
      tx.check.toNat) % 256 = 255

/-- What a station sends is what the part reads (R112, R113, Table 46): a legal reply to a request that went out unopposed
is classified as that reply; a window left released is SILENT; a low level at any bit the part leaves released in the
request is CONTENDED, whatever follows; a broadcast that goes out unopposed is sent whole; a code that is none, a code 5, 6
or 3 whose sum is not FFh, a HOLD whose sum is FFh and whose quanta is 0, and so one wrong bit among the last 8 of a legal
reply, are GARBLED. With the sent-whole indicator set the levels in the request and
the turnaround no longer count, and the window alone decides; the reply bits gathered so far stand in their bit times. A
bit time the list of levels does not reach was left released; these three are the model's reading of the row ATTEMPT_END
(notes/assumptions/13.md). -/
def Obligations.RepliesAreReadBack : Prop :=
  (∀ (r : Reply) (tx : Transaction) (whole : Bool) (first : List Bool), r.answers tx = true →
    first.length = tx.frame.length + 2 → whole = true ∨ Unopposed tx first →
    classify tx whole (first ++ r.bits) = r.attemptClass) ∧
  (∀ (tx : Transaction) (whole : Bool) (sld : List Bool), tx.isBroadcast = false → whole = true ∨ Unopposed tx sld →
    (∀ i, tx.frame.length + 2 ≤ i → i < tx.frame.length + 5 → sld.getD i true = true) →
    classify tx whole sld = .silent) ∧
  (∀ (tx : Transaction) (whole : Bool) (sld : List Bool),
    classify tx whole sld = .contended ↔
      whole = false ∧ ∃ i, i < tx.frame.length ∧ tx.frame.getD i true = true ∧ sld.getD i true = false) ∧
  (∀ (tx : Transaction) (whole : Bool) (sld : List Bool), tx.isBroadcast = true → whole = true ∨ Unopposed tx sld →
    classify tx whole sld = .sentWhole) ∧
  (∀ (tx : Transaction) (whole : Bool) (sld : List Bool), tx.isBroadcast = false → whole = true ∨ Unopposed tx sld →
    sampled sld (tx.frame.length + 2) 3 ∉ [3#3, 5#3, 6#3, 7#3] → classify tx whole sld = .garbled) ∧
  (∀ (tx : Transaction) (whole : Bool) (sld : List Bool), tx.isBroadcast = false → whole = true ∨ Unopposed tx sld →
    let code := sampled sld (tx.frame.length + 2) 3
    let byte : Nat → BitVec 8 := fun i => sampled sld (tx.frame.length + 5 + 8 * i) 8
    let sum : Nat → Nat := fun n => (code.toNat + ((List.range n).map (fun i => (byte i).toNat)).sum) % 256
    (code = 5#3 → tx.isRead = true → classify tx whole sld = if sum 3 = 255 then .ack (byte 0 ++ byte 1) else .garbled) ∧
    (code = 5#3 → tx.isRead = false → classify tx whole sld = if sum 1 = 255 then .ack 0#16 else .garbled) ∧
    (code = 6#3 → classify tx whole sld = if sum 1 = 255 then .reject else .garbled) ∧
    (code = 3#3 →
      classify tx whole sld = if sum 2 = 255 ∧ byte 0 ≠ 0#8 then .hold (byte 0) else .garbled)) ∧
  (∀ (r : Reply) (tx : Transaction) (whole : Bool) (first : List Bool) (n : Nat), r.answers tx = true →
    first.length = tx.frame.length + 2 → whole = true ∨ Unopposed tx first →
    n < r.bits.length → r.bits.length ≤ n + 8 →
    classify tx whole (first ++ r.bits.set n (!r.bits.getD n true)) = .garbled) ∧
  (∀ (tx : Transaction) (sld other : List Bool),
    (∀ i, tx.frame.length + 2 ≤ i → sld.getD i true = other.getD i true) → classify tx true sld = classify tx true other) ∧
  ∀ (n : LineState) (tx : Transaction) (sld : List Bool) (i : Nat),
    (n.seen tx sld).getD i true =
      if tx.frame.length + 2 ≤ i ∧ i < tx.frame.length + 2 + n.reply.length then
        n.reply.getD (i - (tx.frame.length + 2)) true
      else sld.getD i true

/-! ## Invariants -/

/-- The part is sound right after reset: every law of Safety.lean holds there. -/
def Obligations.ResetIsSound : Prop := State.reset.Sound

/-- Every step keeps the laws of the watch table, the change list and the notice unit (R1, R4, R9, R50, R51, R60, R61). -/
def Obligations.StepKeepsTheMirror : Prop := ∀ s t : State, s.MirrorSound → step s = next t → t.MirrorSound

/-- Every step keeps the laws of the link engines and line interfaces (R71, R84, R88, R96, R104, R108, R111, R112). Of these,
that the attempt number in GAP is at most the retry limit is the model's reading of R114 (notes/assumptions/19.md); that
the sent-whole indicator is clear in IDLE, and that no reply bit is held outside REPLY, is its choice
(notes/assumptions/22.md). -/
def Obligations.StepKeepsTheEngines : Prop := ∀ s t : State, s.EngineSound → step s = next t → t.EngineSound

/-- Every step keeps the laws of station records, write queues and demand slots, and with them that no transaction is
addressed to a station left alone (R99, R123, R131, R137, R138, R153 to R160). -/
def Obligations.StepKeepsTheColumns : Prop := ∀ s t : State, s.ColumnSound → step s = next t → t.ColumnSound

/-- Every step keeps the account of writes and losses: a pending count is the number of queued records of its key, WRITING
is a nonzero pending count, and ORPHANED is a MISSING station (R28, R42). -/
def Obligations.StepKeepsTheAccount : Prop :=
  ∀ s t : State, s.TableSound → s.ColumnSound → s.AccountSound → step s = next t → t.AccountSound

/-- Every step keeps the law of the arbiter: while a link is RUNNING with the line free, no group is eligible (R98).
That WATCH, MODIFY and FORGET are followed by a pick too is the model's reading (notes/assumptions/8.md). -/
def Obligations.StepKeepsTheArbiter : Prop := ∀ s t : State, s.ArbiterSound → step s = next t → t.ArbiterSound

/-- The value of an entry is replaced in two ways only (R27): by an ACK of a read of its key, which leaves the entry VALID,
and by the acceptance of a write for its key, which leaves it WRITING. -/
def Obligations.ValuesChangeInTwoWays : Prop :=
  ∀ (c : Instr) (s t : State) (k : Key) (e x : Entry), WellFormed c = true → s.TableSound → exec c s = next t →
    s.find k = some e → t.find k = some x → x.value ≠ e.value →
    (∃ sld tx, c = .attemptEnd k.link sld ∧ (s.link k.link).inFlight = some tx ∧
      (tx = .poll k.station k.register ∨ tx = .demandRead k.station k.register) ∧
      classify tx (s.link k.link).line.sentWhole ((s.link k.link).line.seen tx sld) = .ack x.value ∧ x.state = .valid ∧ x.age = 0) ∨
    (∃ base d, (base = 0 ∨ base = 0x40000) ∧
      c = .windowWrite (windowAddr base k.link k.station.val k.register) 0xF#4 d ∧ x.value = d.extractLsb' 0 16 ∧
      x.state = .writing)

/-- What happens on one link reaches no other link's column, no entry of another link, and no word of the port. That HTERM
and HD stay as the last host access left them is the model's choice (notes/assumptions/20.md). -/
def Obligations.LinksActOnTheirOwn : Prop :=
  ∀ (c : Instr) (m l : LinkNo) (s t : State), m ≠ l →
    (c = .slotTick m ∨ (∃ st, c = .holdExpiry m st) ∨ c = .demandExpiry m ∨ c = .gapEnd m ∨ c = .quietTimeEnd m ∨
      (∃ sld, c = .attemptEnd m sld) ∨ c = .requestSentWhole m) →
    exec c s = next t →
    t.link l = s.link l ∧ (∀ e, e.key.link = l → (e ∈ t.table ↔ e ∈ s.table)) ∧ t.args = s.args ∧ t.results = s.results ∧
      t.taken = s.taken ∧ t.command = s.command ∧ t.hterm = s.hterm ∧ t.hdata = s.hdata

/-! ## Durations -/

/-- The length of a reply window by its code (R112, Table 45), and how long an attempt holds the line (R121, Table 53), each
by number. Where every other timer that runs, the slot timer and the other lines among them, has more time left than the
attempt holds, and no other request is contended meanwhile, the clock carries an attempt from its first lead bit through
exactly those bit times of D + 1 REFCLK periods, and ends it there with the class of the levels the stations left. The
clock, and the levels as an input, are the model's (notes/assumptions/1.md). -/
def Obligations.AttemptHoldsTheLine : Prop :=
  (∀ isRead : Bool,
    windowBits isRead 5#3 = (if isRead then 27 else 11) ∧ windowBits isRead 6#3 = 11 ∧ windowBits isRead 3#3 = 19 ∧
    windowBits isRead 7#3 = 3 ∧
    ∀ code : BitVec 3, code ∉ [3#3, 5#3, 6#3, 7#3] → windowBits isRead code = if isRead then 27 else 19) ∧
  (∀ (r : Reply) (tx : Transaction) (first : List Bool), r.answers tx = true → first.length = tx.frame.length + 2 →
    Unopposed tx first →
    attemptBits tx (first ++ r.bits) =
      match r with
      | .ackRead _ => 59
      | .ackWrite => 59
      | .reject => if tx.isRead then 43 else 59
      | .hold _ => if tx.isRead then 51 else 67) ∧
  (∀ (tx : Transaction) (sld : List Bool), tx.isBroadcast = false → Unopposed tx sld →
    (sampled sld (tx.frame.length + 2) 3 = 7#3 → attemptBits tx sld = if tx.isRead then 35 else 51) ∧
    (sampled sld (tx.frame.length + 2) 3 ∉ [3#3, 5#3, 6#3, 7#3] → attemptBits tx sld = if tx.isRead then 59 else 67)) ∧
  (∀ (tx : Transaction) (sld : List Bool), tx.isBroadcast = true → Unopposed tx sld → attemptBits tx sld = 46) ∧
  (∀ (tx : Transaction) (sld : List Bool) (i : Nat), i < tx.frame.length → tx.frame.getD i true = true →
    sld.getD i true = false → (∀ j, j < i → tx.frame.getD j true = true → sld.getD j true = true) →
    attemptBits tx sld = i + 1) ∧
  ∀ (s : State) (l : LinkNo) (tx : Transaction) (attempt : Nat), s.pending = [] → s.rstLow = false →
    (s.link l).inFlight = some tx →
    (s.link l).line = ⟨.request, attempt, false, [], .none, ⟨tx.frame.length, 0⟩⟩ →
    let periods := attemptBits tx s.sld[l] * ((s.link l).divider + 1)
    (∀ t, s.lingerTimer = some t → t.Outlasts 3200 periods) →
    (∀ m t, (s.link m).slotTimer = .running t → t.Outlasts ((s.link m).divider + 1) periods) →
    (∀ m, m ≠ l → (s.link m).line.rest ≠ .none ∨ (s.link m).line.Attempts →
      (s.link m).line.timer.Outlasts ((s.link m).divider + 1) periods) →
    (∀ m, m ≠ l → (s.link m).line.rest = .none → (s.link m).line.phase = .request →
      ∃ other : Transaction, (s.link m).inFlight = some other ∧
        ∀ i, i < (s.link m).line.timer.left →
          other.frame.getD (other.frame.length - ((s.link m).line.timer.left - i)) true = true →
          s.sld[m].getD i true = true) →
    ∃ (run : Nat → State) (last : State) (sld : List Bool), run 0 = s ∧
      (∀ k, k + 1 < periods → step (run k) = next (run (k + 1))) ∧
      (∀ k, k < periods → ((run k).link l).inFlight = some tx ∧ ((run k).link l).line.Attempts ∧
        ((run k).link l).line.attempt = attempt) ∧
      last = (run (periods - 1)).advanceTimers ∧ step (run (periods - 1)) = exec (.attemptEnd l sld) last ∧
      Attempting last l tx sld (classify tx false s.sld[l])
end

