-- ==== Sys2Proof/Laws/State.lean ====
section
/-! SUPPORT. One lemma per field for each update of the state, so that no later proof unfolds a record update. -/

namespace Sys2Proof.Machine

/-! ## updLink -/

@[simp] theorem link_updLink_same (s : State) (l : LinkNo) (f : Link → Link) :
    (s.updLink l f).link l = f (s.link l) := by
  simp [State.updLink, State.link]

theorem link_updLink_ne (s : State) {l m : LinkNo} (f : Link → Link) (h : m ≠ l) :
    (s.updLink l f).link m = s.link m := by
  have hv : l.val ≠ m.val := fun e => h (Fin.ext e.symm)
  simp [State.updLink, State.link, hv]

theorem link_updLink (s : State) (l m : LinkNo) (f : Link → Link) :
    (s.updLink l f).link m = if m = l then f (s.link l) else s.link m := by
  by_cases h : m = l
  · subst h; simp
  · simp [h, link_updLink_ne s f h]

/-- Two states with the same links have the same link. -/
theorem link_of_links {s t : State} (h : s.links = t.links) (l : LinkNo) : s.link l = t.link l := by
  simp [State.link, h]

theorem links_ext {s t : State} (h : ∀ l, s.link l = t.link l) : s.links = t.links := by
  apply Vector.ext
  intro i hi
  exact h ⟨i, hi⟩

@[simp] theorem updLink_pending (s : State) (l : LinkNo) (f : Link → Link) : (s.updLink l f).pending = s.pending := rfl
@[simp] theorem updLink_sld (s : State) (l : LinkNo) (f : Link → Link) : (s.updLink l f).sld = s.sld := rfl
@[simp] theorem updLink_level (s : State) (l m : LinkNo) (f : Link → Link) : (s.updLink l f).level m = s.level m := rfl
@[simp] theorem updLink_choices (s : State) (l : LinkNo) (f : Link → Link) : (s.updLink l f).choices = s.choices := rfl
@[simp] theorem updLink_rstLow (s : State) (l : LinkNo) (f : Link → Link) : (s.updLink l f).rstLow = s.rstLow := rfl
@[simp] theorem updLink_hterm (s : State) (l : LinkNo) (f : Link → Link) : (s.updLink l f).hterm = s.hterm := rfl
@[simp] theorem updLink_hdata (s : State) (l : LinkNo) (f : Link → Link) : (s.updLink l f).hdata = s.hdata := rfl
@[simp] theorem updLink_command (s : State) (l : LinkNo) (f : Link → Link) : (s.updLink l f).command = s.command := rfl
@[simp] theorem updLink_args (s : State) (l : LinkNo) (f : Link → Link) : (s.updLink l f).args = s.args := rfl
@[simp] theorem updLink_results (s : State) (l : LinkNo) (f : Link → Link) : (s.updLink l f).results = s.results := rfl
@[simp] theorem updLink_taken (s : State) (l : LinkNo) (f : Link → Link) : (s.updLink l f).taken = s.taken := rfl
@[simp] theorem updLink_table (s : State) (l : LinkNo) (f : Link → Link) : (s.updLink l f).table = s.table := rfl
@[simp] theorem updLink_list (s : State) (l : LinkNo) (f : Link → Link) : (s.updLink l f).list = s.list := rfl
@[simp] theorem updLink_noticeEnable (s : State) (l : LinkNo) (f : Link → Link) :
    (s.updLink l f).noticeEnable = s.noticeEnable := rfl
@[simp] theorem updLink_threshold (s : State) (l : LinkNo) (f : Link → Link) :
    (s.updLink l f).threshold = s.threshold := rfl
@[simp] theorem updLink_linger (s : State) (l : LinkNo) (f : Link → Link) : (s.updLink l f).linger = s.linger := rfl
@[simp] theorem updLink_lingerTimer (s : State) (l : LinkNo) (f : Link → Link) :
    (s.updLink l f).lingerTimer = s.lingerTimer := rfl
@[simp] theorem updLink_lingered (s : State) (l : LinkNo) (f : Link → Link) :
    (s.updLink l f).lingered = s.lingered := rfl
@[simp] theorem updLink_find (s : State) (l : LinkNo) (f : Link → Link) (k : Key) :
    (s.updLink l f).find k = s.find k := rfl
@[simp] theorem updLink_listed (s : State) (l : LinkNo) (f : Link → Link) (k : Key) :
    (s.updLink l f).listed k = s.listed k := rfl

/-! ## Station records -/

@[simp] theorem station_setStation_same (k : Link) (st : StationNo) (r : StationRecord) :
    (k.setStation st r).station st = r := by
  simp [Link.setStation, Link.station]

theorem station_setStation_ne (k : Link) {st st' : StationNo} (r : StationRecord) (h : st' ≠ st) :
    (k.setStation st r).station st' = k.station st' := by
  have hv : st.val ≠ st'.val := fun e => h (Fin.ext e.symm)
  simp [Link.setStation, Link.station, hv]

theorem station_setStation (k : Link) (st st' : StationNo) (r : StationRecord) :
    (k.setStation st r).station st' = if st' = st then r else k.station st' := by
  by_cases h : st' = st
  · subst h; simp
  · simp [h, station_setStation_ne k r h]

@[simp] theorem setStation_state (k : Link) (st : StationNo) (r : StationRecord) :
    (k.setStation st r).state = k.state := rfl
@[simp] theorem setStation_inFlight (k : Link) (st : StationNo) (r : StationRecord) :
    (k.setStation st r).inFlight = k.inFlight := rfl
@[simp] theorem setStation_queue (k : Link) (st : StationNo) (r : StationRecord) :
    (k.setStation st r).queue = k.queue := rfl
@[simp] theorem setStation_demand (k : Link) (st : StationNo) (r : StationRecord) :
    (k.setStation st r).demand = k.demand := rfl
@[simp] theorem setStation_batch (k : Link) (st : StationNo) (r : StationRecord) :
    (k.setStation st r).batch = k.batch := rfl
@[simp] theorem setStation_line (k : Link) (st : StationNo) (r : StationRecord) :
    (k.setStation st r).line = k.line := rfl
@[simp] theorem setStation_events (k : Link) (st : StationNo) (r : StationRecord) :
    (k.setStation st r).events = k.events := rfl

/-! ## answer, result and finish -/

@[simp] theorem answer_hterm (s : State) (t : Termination) (d : Option Word) : (s.answer t d).hterm = t := rfl
@[simp] theorem answer_hdata (s : State) (t : Termination) (d : Option Word) : (s.answer t d).hdata = d := rfl
@[simp] theorem answer_pending (s : State) (t : Termination) (d : Option Word) : (s.answer t d).pending = s.pending := rfl
@[simp] theorem answer_sld (s : State) (t : Termination) (d : Option Word) : (s.answer t d).sld = s.sld := rfl
@[simp] theorem answer_choices (s : State) (t : Termination) (d : Option Word) : (s.answer t d).choices = s.choices := rfl
@[simp] theorem answer_rstLow (s : State) (t : Termination) (d : Option Word) : (s.answer t d).rstLow = s.rstLow := rfl
@[simp] theorem answer_command (s : State) (t : Termination) (d : Option Word) : (s.answer t d).command = s.command := rfl
@[simp] theorem answer_args (s : State) (t : Termination) (d : Option Word) : (s.answer t d).args = s.args := rfl
@[simp] theorem answer_results (s : State) (t : Termination) (d : Option Word) : (s.answer t d).results = s.results := rfl
@[simp] theorem answer_taken (s : State) (t : Termination) (d : Option Word) : (s.answer t d).taken = s.taken := rfl
@[simp] theorem answer_table (s : State) (t : Termination) (d : Option Word) : (s.answer t d).table = s.table := rfl
@[simp] theorem answer_list (s : State) (t : Termination) (d : Option Word) : (s.answer t d).list = s.list := rfl
@[simp] theorem answer_links (s : State) (t : Termination) (d : Option Word) : (s.answer t d).links = s.links := rfl
@[simp] theorem answer_link (s : State) (t : Termination) (d : Option Word) (l : LinkNo) :
    (s.answer t d).link l = s.link l := rfl
@[simp] theorem answer_station (s : State) (t : Termination) (d : Option Word) (l : LinkNo) (st : StationNo) :
    (s.answer t d).station l st = s.station l st := rfl
@[simp] theorem answer_find (s : State) (t : Termination) (d : Option Word) (k : Key) :
    (s.answer t d).find k = s.find k := rfl

@[simp] theorem result_results (s : State) (c : ResultCode) (r1 r2 r3 : Word) :
    (s.result c r1 r2 r3).results = #v[c.number, r1, r2, r3] := rfl
@[simp] theorem result_sld (s : State) (c : ResultCode) (r1 r2 r3 : Word) : (s.result c r1 r2 r3).sld = s.sld := rfl
@[simp] theorem result_link (s : State) (c : ResultCode) (r1 r2 r3 : Word) (l : LinkNo) :
    (s.result c r1 r2 r3).link l = s.link l := rfl
@[simp] theorem result_table (s : State) (c : ResultCode) (r1 r2 r3 : Word) :
    (s.result c r1 r2 r3).table = s.table := rfl
@[simp] theorem result_list (s : State) (c : ResultCode) (r1 r2 r3 : Word) : (s.result c r1 r2 r3).list = s.list := rfl
@[simp] theorem finish_results (s : State) (c : ResultCode) :
    (s.finish c).results = #v[c.number, 0#32, 0#32, 0#32] := rfl
@[simp] theorem finish_link (s : State) (c : ResultCode) (l : LinkNo) : (s.finish c).link l = s.link l := rfl
@[simp] theorem finish_table (s : State) (c : ResultCode) : (s.finish c).table = s.table := rfl
@[simp] theorem finish_list (s : State) (c : ResultCode) : (s.finish c).list = s.list := rfl

/-! ## Linger -/

@[simp] theorem startLinger_list (s : State) : s.startLinger.list = s.list := rfl
@[simp] theorem startLinger_table (s : State) : s.startLinger.table = s.table := rfl
@[simp] theorem startLinger_links (s : State) : s.startLinger.links = s.links := rfl
@[simp] theorem startLinger_lingered (s : State) : s.startLinger.lingered = false := rfl
@[simp] theorem stopLinger_list (s : State) : s.stopLinger.list = s.list := rfl
@[simp] theorem stopLinger_table (s : State) : s.stopLinger.table = s.table := rfl
@[simp] theorem stopLinger_links (s : State) : s.stopLinger.links = s.links := rfl
@[simp] theorem stopLinger_lingered (s : State) : s.stopLinger.lingered = false := rfl
@[simp] theorem stopLinger_lingerTimer (s : State) : s.stopLinger.lingerTimer = none := rfl

/-! ## Events -/

@[simp] theorem raise_events (k : Link) (e : LinkEvent) : (k.raise e).events = k.events ||| e.bit := rfl
@[simp] theorem raise_state (k : Link) (e : LinkEvent) : (k.raise e).state = k.state := rfl
@[simp] theorem raise_inFlight (k : Link) (e : LinkEvent) : (k.raise e).inFlight = k.inFlight := rfl
@[simp] theorem raise_queue (k : Link) (e : LinkEvent) : (k.raise e).queue = k.queue := rfl
@[simp] theorem raise_demand (k : Link) (e : LinkEvent) : (k.raise e).demand = k.demand := rfl
@[simp] theorem raise_batch (k : Link) (e : LinkEvent) : (k.raise e).batch = k.batch := rfl
@[simp] theorem raise_station (k : Link) (e : LinkEvent) (st : StationNo) : (k.raise e).station st = k.station st := rfl
@[simp] theorem raise_line (k : Link) (e : LinkEvent) : (k.raise e).line = k.line := rfl

/-! ## The state after reset -/

@[simp] theorem reset_link (l : LinkNo) : State.reset.link l = Link.reset := by
  simp [State.reset, State.link]

@[simp] theorem reset_level (l : LinkNo) : State.reset.level l = true := by
  simp [State.reset, State.level]

@[simp] theorem reset_station (l : LinkNo) (st : StationNo) : State.reset.station l st = StationRecord.reset := by
  simp [State.station, Link.reset, Link.station]

end Sys2Proof.Machine
end

