-- ==== Sys2Proof/Laws/Line.lean ====
section
/-! SUPPORT. What the operations on a line can do: the length of a frame, which levels a class depends on, and one REFCLK
period of a link. -/

namespace Sys2Proof.Machine

/-! ## Frames and levels -/

/-- The bits of a field are as many as its width. -/
@[simp] theorem bitsOf_length {w : Nat} (v : BitVec w) : (bitsOf v).length = w := by simp [bitsOf]

/-- A frame has as many bits as the frame timer counts (R109). -/
@[simp] theorem frame_length (tx : Transaction) : tx.frame.length = tx.frameBits := by
  cases tx <;> rfl

/-- A class depends on the levels alone, and on no level that is released for want of a list entry. -/
theorem classify_congr (tx : Transaction) (whole : Bool) {a b : List Bool} (h : ∀ i, outside a i = outside b i) :
    classify tx whole a = classify tx whole b := by
  have ho : outside a = outside b := funext h
  have hs : ∀ at0 w, sampled a at0 w = sampled b at0 w := fun _ _ => by simp only [sampled, ho]
  have hc : contention tx.frame a = contention tx.frame b := by simp only [contention, contentionBit, ho]
  have hr : ∀ at0, replyClass tx.isRead a at0 = replyClass tx.isRead b at0 := fun _ => by simp only [replyClass, hs]
  simp only [classify, hc, hr]

/-- With no reply bit gathered yet, an attempt is classified by the levels that its end brings. -/
theorem classify_seen_of_no_reply (n : LineState) (tx : Transaction) (whole : Bool) (sld : List Bool)
    (h : n.reply = []) : classify tx whole (n.seen tx sld) = classify tx whole sld := by
  refine classify_congr tx whole fun i => ?_
  simp only [outside, LineState.seen, h, List.append_nil, List.length_nil, Nat.add_zero, List.getD_eq_getElem?_getD]
  by_cases hi : i < tx.frameBits + Config.turnaroundBits
  · rw [List.getElem?_append_left (by simpa using hi)]
    simp [hi, outside]
  · rw [List.getElem?_append_right (by simpa using hi)]
    simp [Nat.add_sub_cancel' (Nat.le_of_not_lt hi)]

/-! ## The end of an attempt -/

/-- An attempt under way ends with the class of the levels it has seen (R113). -/
theorem attemptEnd_of_underWay (s : State) {l : LinkNo} {tx : Transaction} (sld : List Bool)
    (hf : (s.link l).inFlight = some tx) (hu : (s.link l).line.underWay = true) :
    s.attemptEnd l sld =
      s.endAttempt l tx (classify tx (s.link l).line.sentWhole ((s.link l).line.seen tx sld)) := by
  simp [State.attemptEnd, hf, hu]

/-- Without a transaction in flight there is no attempt to end (notes/assumptions/2.md). -/
theorem attemptEnd_of_none (s : State) {l : LinkNo} (sld : List Bool) (hf : (s.link l).inFlight = none) :
    s.attemptEnd l sld = s := by
  simp [State.attemptEnd, hf]

/-- Outside an attempt nothing ends (notes/assumptions/2.md). -/
theorem attemptEnd_of_not_underWay (s : State) {l : LinkNo} (sld : List Bool)
    (hu : (s.link l).line.underWay = false) : s.attemptEnd l sld = s := by
  unfold State.attemptEnd
  split
  · simp [hu]
  · rfl

/-! ## One REFCLK period -/

/-- One REFCLK period of the timers of a link. -/
@[simp] theorem link_advanceTimers (s : State) (l : LinkNo) :
    s.advanceTimers.link l = ((s.link l).lineAdvance (s.level l)).slotAdvance := by
  simp [State.advanceTimers, State.link]

@[simp] theorem advanceTimers_pending (s : State) : s.advanceTimers.pending = s.pending := rfl
@[simp] theorem advanceTimers_choices (s : State) : s.advanceTimers.choices = s.choices := rfl
@[simp] theorem advanceTimers_rstLow (s : State) : s.advanceTimers.rstLow = s.rstLow := rfl
@[simp] theorem advanceTimers_table (s : State) : s.advanceTimers.table = s.table := rfl
@[simp] theorem advanceTimers_list (s : State) : s.advanceTimers.list = s.list := rfl
@[simp] theorem advanceTimers_lingered (s : State) : s.advanceTimers.lingered = s.lingered := rfl

/-- The slot timer is all that its period changes. -/
theorem slotAdvance_frame (k : Link) : k.slotAdvance = { k with slotTimer := k.slotAdvance.slotTimer } := by
  unfold Link.slotAdvance
  split
  · split <;> rfl
  · rfl
  · rfl

/-- The line timer and the reply bits are all that a period of the line changes. -/
theorem lineAdvance_frame (k : Link) (level : Bool) :
    k.lineAdvance level =
      { k with line := { k.line with
          timer := (k.lineAdvance level).line.timer, reply := (k.lineAdvance level).line.reply } } := by
  unfold Link.lineAdvance
  split <;> rfl

/-- A line whose phase ends in the period is left as it is until the end takes effect. -/
theorem lineAdvance_of_due (k : Link) (level : Bool) (h : k.lineDue level = true) : k.lineAdvance level = k := by
  simp [Link.lineAdvance, h]

end Sys2Proof.Machine
end

