-- ==== Sys2Proof/Laws/Ops.lean ====
section
/-! SUPPORT. For each shared operation, once, everything it can do: cite these, do not unfold the operation. -/

namespace Sys2Proof.Machine

/-! ## Linger -/

/-- Losing the oldest record clears the lingered indicator and restarts or stops the timer (R61). -/
theorem oldestLost_eq (s : State) :
    s.oldestLost =
      { s with
        lingered := false
        lingerTimer := if s.list = [] ∨ s.linger = 0#8 then none else some ⟨s.linger.toNat, 0⟩ } := by
  unfold State.oldestLost State.stopLinger State.startLinger
  cases hl : s.list <;> by_cases hz : s.linger = 0#8 <;> simp [hz]

/-! ## Listings -/

/-- A listing for a key that has a record joins that record and does nothing else (R53). -/
theorem listing_listed (s : State) {k : Key} {rs : List Reason} {old : Value} (h : s.listed k = true) :
    s.listing k rs old = { s with list := s.list.map (fun r => if r.key = k then r.join rs else r) } := by
  simp [State.listing, h]

/-- A listing for a key without a record appends one; on an empty list it becomes the oldest (R52, R61). -/
theorem listing_unlisted (s : State) {k : Key} {rs : List Reason} {old : Value} (h : s.listed k = false) :
    s.listing k rs old =
      { s with
        list := s.list ++ [⟨k, reasonSet rs, old, countUp 0 rs.length⟩]
        lingered := if s.list = [] then false else s.lingered
        lingerTimer :=
          if s.list = [] then (if s.linger = 0#8 then none else some ⟨s.linger.toNat, 0⟩) else s.lingerTimer } := by
  unfold State.listing State.startLinger
  cases hl : s.list <;> simp [h]

/-- What a listing can change: the list, the lingered indicator and the linger timer. -/
theorem listing_frame (s : State) (k : Key) (rs : List Reason) (old : Value) :
    s.listing k rs old =
      { s with
        list := (s.listing k rs old).list
        lingered := (s.listing k rs old).lingered
        lingerTimer := (s.listing k rs old).lingerTimer } := by
  cases h : s.listed k
  · rw [listing_unlisted s h]
  · rw [listing_listed s h]

@[simp] theorem listing_table (s : State) (k : Key) (rs : List Reason) (old : Value) :
    (s.listing k rs old).table = s.table := by rw [listing_frame]
@[simp] theorem listing_links (s : State) (k : Key) (rs : List Reason) (old : Value) :
    (s.listing k rs old).links = s.links := by rw [listing_frame]

/-- Records leave without a take: the list is filtered, and the linger timer is touched exactly when the oldest record is
among them (R55, R61). -/
theorem removeRecords_eq (s : State) (p : Key → Bool) :
    s.removeRecords p =
      { s with
        list := s.list.filter (fun r => !p r.key)
        lingered := if s.list.head?.any (fun r => p r.key) then false else s.lingered
        lingerTimer :=
          if s.list.head?.any (fun r => p r.key) then
            (if s.list.filter (fun r => !p r.key) = [] ∨ s.linger = 0#8 then none else some ⟨s.linger.toNat, 0⟩)
          else s.lingerTimer } := by
  unfold State.removeRecords
  cases hl : s.list with
  | nil => simp
  | cons r rest => cases hp : p r.key <;> simp [hp, oldestLost_eq]

/-- Entries leave with their records, and nothing else moves (R12, R19). -/
theorem removeEntries_eq (s : State) (p : Key → Bool) :
    s.removeEntries p = { s.removeRecords p with table := s.table.filter (fun e => !p e.key) } := by
  simp [State.removeEntries, removeRecords_eq]

/-! ## Events at the table -/

/-- A fold of listings changes only what a listing changes. -/
theorem foldl_listing_frame (f : Entry → Entry × List Reason) (es : List Entry) (s : State) :
    es.foldl (fun t e => if (f e).2.isEmpty then t else t.listing e.key (f e).2 e.value) s =
      { s with
        list := (es.foldl (fun t e => if (f e).2.isEmpty then t else t.listing e.key (f e).2 e.value) s).list
        lingered := (es.foldl (fun t e => if (f e).2.isEmpty then t else t.listing e.key (f e).2 e.value) s).lingered
        lingerTimer :=
          (es.foldl (fun t e => if (f e).2.isEmpty then t else t.listing e.key (f e).2 e.value) s).lingerTimer } := by
  induction es generalizing s with
  | nil => rfl
  | cons e es ih =>
    simp only [List.foldl_cons]
    cases he : (f e).2.isEmpty
    · simp only [Bool.false_eq_true, if_false]
      rw [ih, listing_frame]
    · simp only [if_true]
      exact ih s

/-- An event at the table changes the table, the list and the linger timer, and nothing else. -/
theorem entryEvent_frame (s : State) (p : Entry → Bool) (f : Entry → Entry × List Reason) :
    s.entryEvent p f =
      { s with
        table := s.table.map (fun e => if p e then (f e).1 else e)
        list := (s.entryEvent p f).list
        lingered := (s.entryEvent p f).lingered
        lingerTimer := (s.entryEvent p f).lingerTimer } := by
  unfold State.entryEvent
  rw [foldl_listing_frame]

@[simp] theorem entryEvent_table (s : State) (p : Entry → Bool) (f : Entry → Entry × List Reason) :
    (s.entryEvent p f).table = s.table.map (fun e => if p e then (f e).1 else e) := by rw [entryEvent_frame]
@[simp] theorem entryEvent_links (s : State) (p : Entry → Bool) (f : Entry → Entry × List Reason) :
    (s.entryEvent p f).links = s.links := by rw [entryEvent_frame]
@[simp] theorem entryEvent_link (s : State) (p : Entry → Bool) (f : Entry → Entry × List Reason) (l : LinkNo) :
    (s.entryEvent p f).link l = s.link l := link_of_links (entryEvent_links s p f) l
@[simp] theorem entryEvent_pending (s : State) (p : Entry → Bool) (f : Entry → Entry × List Reason) :
    (s.entryEvent p f).pending = s.pending := by rw [entryEvent_frame]
@[simp] theorem entryEvent_sld (s : State) (p : Entry → Bool) (f : Entry → Entry × List Reason) :
    (s.entryEvent p f).sld = s.sld := by rw [entryEvent_frame]
@[simp] theorem entryEvent_rstLow (s : State) (p : Entry → Bool) (f : Entry → Entry × List Reason) :
    (s.entryEvent p f).rstLow = s.rstLow := by rw [entryEvent_frame]

/-- A listing and an update of a link column do not touch each other. -/
theorem listing_updLink (s : State) (l : LinkNo) (g : Link → Link) (k : Key) (rs : List Reason) (old : Value) :
    (s.updLink l g).listing k rs old = (s.listing k rs old).updLink l g := by
  cases h : s.listed k
  · rw [listing_unlisted s h, listing_unlisted (s.updLink l g) h]; rfl
  · rw [listing_listed s h, listing_listed (s.updLink l g) h]; rfl

theorem foldl_listing_updLink (f : Entry → Entry × List Reason) (es : List Entry) (s : State) (l : LinkNo)
    (g : Link → Link) :
    es.foldl (fun t e => if (f e).2.isEmpty then t else t.listing e.key (f e).2 e.value) (s.updLink l g) =
      (es.foldl (fun t e => if (f e).2.isEmpty then t else t.listing e.key (f e).2 e.value) s).updLink l g := by
  induction es generalizing s with
  | nil => rfl
  | cons e es ih =>
    simp only [List.foldl_cons]
    split
    · exact ih s
    · rw [listing_updLink, ih]

/-- An event at the table and an update of a link column do not touch each other. -/
theorem entryEvent_updLink (s : State) (l : LinkNo) (g : Link → Link) (p : Entry → Bool)
    (f : Entry → Entry × List Reason) : (s.updLink l g).entryEvent p f = (s.entryEvent p f).updLink l g :=
  foldl_listing_updLink f (s.table.filter p) { s with table := s.table.map (fun e => if p e then (f e).1 else e) } l g

/-- Two updates of one link column are one. -/
theorem updLink_updLink (s : State) (l : LinkNo) (f g : Link → Link) :
    (s.updLink l f).updLink l g = s.updLink l (fun k => g (f k)) := by
  simp [State.updLink]

/-- An update of a link column depends on what it makes of that column alone. -/
theorem updLink_congr (s : State) (l : LinkNo) {f g : Link → Link} (h : f (s.link l) = g (s.link l)) :
    s.updLink l f = s.updLink l g := by
  simp only [State.updLink, show f s.links[l] = g s.links[l] from h]

/-- An event that lists nothing changes the table alone. -/
theorem entryEvent_silent (s : State) (p : Entry → Bool) (f : Entry → Entry × List Reason)
    (h : ∀ e ∈ s.table, p e = true → (f e).2 = []) :
    s.entryEvent p f = { s with table := s.table.map (fun e => if p e then (f e).1 else e) } := by
  unfold State.entryEvent
  have key : ∀ (es : List Entry), (∀ e ∈ es, (f e).2 = []) → ∀ t : State,
      es.foldl (fun t e => if (f e).2.isEmpty then t else t.listing e.key (f e).2 e.value) t = t := by
    intro es
    induction es with
    | nil => intro _ t; rfl
    | cons e es ih =>
      intro he t
      simp only [List.foldl_cons, he e List.mem_cons_self, List.isEmpty_nil, if_true]
      exact ih (fun x hx => he x (List.mem_cons_of_mem e hx)) t
  apply key
  intro e he
  rw [List.mem_filter] at he
  exact h e he.1 he.2

/-- An event for a key without an entry changes nothing (R5). -/
theorem keyEvent_unwatched (s : State) {k : Key} (f : Entry → Entry × List Reason) (h : s.find k = none) :
    s.keyEvent k f = s := by
  have hk : ∀ e ∈ s.table, ¬ (e.key == k) = true := by
    intro e he
    have := List.find?_eq_none.mp h e he
    exact this
  unfold State.keyEvent
  rw [entryEvent_silent s _ f (fun e he hp => absurd hp (hk e he))]
  have : s.table.map (fun e => if (e.key == k) = true then (f e).1 else e) = s.table := by
    conv_rhs => rw [← List.map_id s.table]
    apply List.map_congr_left
    intro e he
    simp only [hk e he]
    rfl
  rw [this]

/-! ## The arbiter -/

theorem passes_congr {s t : State} (l : LinkNo) (held : List StationNo) (hl : s.links = t.links)
    (ht : s.table = t.table) : s.passes l held = t.passes l held := by
  funext i
  cases i <;> simp [State.passes, State.find, State.station, State.link, hl, ht]

theorem eligible_congr {s t : State} (l : LinkNo) (hl : s.links = t.links) (ht : s.table = t.table) :
    s.eligible l = t.eligible l := by
  funext g
  cases g <;> simp [State.eligible, State.pollEligible, passes_congr l [] hl ht, link_of_links hl l]

/-- What the arbiter makes of the links depends on the links and the table alone. -/
theorem arbitrate_links_congr {s t : State} (l : LinkNo) (hl : s.links = t.links) (ht : s.table = t.table) :
    (s.arbitrate l).links = (t.arbitrate l).links := by
  unfold State.arbitrate State.nextGroup
  rw [link_of_links hl l, eligible_congr l hl ht]
  split
  · split
    · simp [State.issue, State.updLink, hl, passes_congr l [] hl ht]
    · exact hl
  · exact hl

/-- The arbiter changes links only. -/
theorem arbitrate_frame (s : State) (l : LinkNo) : s.arbitrate l = { s with links := (s.arbitrate l).links } := by
  unfold State.arbitrate
  split
  · split <;> rfl
  · rfl

/-- The arbiter of a link leaves the other links as they were. -/
theorem arbitrate_link_ne (s : State) {l m : LinkNo} (h : m ≠ l) : (s.arbitrate l).link m = s.link m := by
  unfold State.arbitrate
  split
  · split
    · exact link_updLink_ne s _ h
    · rfl
  · rfl

/-- The three ways the arbiter can leave a state (R98): the link does not pick, no group is eligible, or one is issued. -/
theorem arbitrate_cases (s : State) (l : LinkNo) :
    (((s.link l).state ≠ .running ∨ (s.link l).inFlight ≠ none) ∧ s.arbitrate l = s) ∨
    ((s.link l).state = .running ∧ (s.link l).inFlight = none ∧ s.nextGroup l = none ∧ s.arbitrate l = s) ∨
    (∃ g, (s.link l).state = .running ∧ (s.link l).inFlight = none ∧ s.nextGroup l = some g ∧
      s.eligible l g = true ∧ s.arbitrate l = s.issue l g) := by
  unfold State.arbitrate
  split
  · rename_i h
    cases hg : s.nextGroup l with
    | none => exact .inr (.inl ⟨h.1, h.2, rfl, rfl⟩)
    | some g => exact .inr (.inr ⟨g, h.1, h.2, rfl, List.find?_some hg, rfl⟩)
  · rename_i h
    refine .inl ⟨?_, rfl⟩
    by_cases hs : (s.link l).state = .running
    · exact .inr (fun hi => h ⟨hs, hi⟩)
    · exact .inl hs

@[simp] theorem arbitrate_pending (s : State) (l : LinkNo) : (s.arbitrate l).pending = s.pending := by
  rw [arbitrate_frame]
@[simp] theorem arbitrate_sld (s : State) (l : LinkNo) : (s.arbitrate l).sld = s.sld := by
  rw [arbitrate_frame]
@[simp] theorem arbitrate_choices (s : State) (l : LinkNo) : (s.arbitrate l).choices = s.choices := by
  rw [arbitrate_frame]
@[simp] theorem arbitrate_rstLow (s : State) (l : LinkNo) : (s.arbitrate l).rstLow = s.rstLow := by
  rw [arbitrate_frame]
@[simp] theorem arbitrate_command (s : State) (l : LinkNo) : (s.arbitrate l).command = s.command := by
  rw [arbitrate_frame]
@[simp] theorem arbitrate_args (s : State) (l : LinkNo) : (s.arbitrate l).args = s.args := by rw [arbitrate_frame]
@[simp] theorem arbitrate_results (s : State) (l : LinkNo) : (s.arbitrate l).results = s.results := by
  rw [arbitrate_frame]
@[simp] theorem arbitrate_taken (s : State) (l : LinkNo) : (s.arbitrate l).taken = s.taken := by rw [arbitrate_frame]
@[simp] theorem arbitrate_table (s : State) (l : LinkNo) : (s.arbitrate l).table = s.table := by rw [arbitrate_frame]
@[simp] theorem arbitrate_list (s : State) (l : LinkNo) : (s.arbitrate l).list = s.list := by rw [arbitrate_frame]

/-- Ending the host access and picking do not touch each other. -/
theorem arbitrate_answer (s : State) (l : LinkNo) (t : Termination) (d : Option Word) :
    (s.answer t d).arbitrate l = (s.arbitrate l).answer t d := by
  rw [arbitrate_frame (s.answer t d), arbitrate_links_congr (s := s.answer t d) (t := s) l rfl rfl]
  conv_rhs => rw [arbitrate_frame s]
  rfl

/-- Writing the RESULT words and picking do not touch each other. -/
theorem arbitrate_result (s : State) (l : LinkNo) (c : ResultCode) (r1 r2 r3 : Word) :
    (s.result c r1 r2 r3).arbitrate l = (s.arbitrate l).result c r1 r2 r3 := by
  rw [arbitrate_frame (s.result c r1 r2 r3), arbitrate_links_congr (s := s.result c r1 r2 r3) (t := s) l rfl rfl]
  conv_rhs => rw [arbitrate_frame s]
  rfl

/-- Storing COMMAND and picking do not touch each other. -/
theorem arbitrate_storeCommand (s : State) (l : LinkNo) (code : Word) :
    ({ s with command := code } : State).arbitrate l = { s.arbitrate l with command := code } := by
  rw [arbitrate_frame { s with command := code },
    arbitrate_links_congr (s := { s with command := code }) (t := s) l rfl rfl]
  conv_rhs => rw [arbitrate_frame s]

/-! ## The port -/

/-- While RST_N is low a command is refused with ERROR (R162). -/
theorem onCommand_low (s : State) (code : Word) (run : State → State) (h : s.rstLow = true) :
    s.onCommand code run = s.answer .error none := by simp [State.onCommand, h]

/-- A command stores its code, runs, and ends DONE (R164, R165). -/
theorem onCommand_high (s : State) (code : Word) (run : State → State) (h : s.rstLow = false) :
    s.onCommand code run = (run { s with command := code }).answer .done none := by simp [State.onCommand, h]

/-- A write refused by its form ends ERROR and changes nothing else (R162). -/
theorem hostWrite_refused (s : State) (a : HostAddr) (be : ByteEnables) (d : Word)
    (h : (s.rstLow || malformedAccess a be) = true) : s.hostWrite a be d = s.answer .error none := by
  simp [State.hostWrite, h]

/-- A read refused by its form ends ERROR and changes nothing else (R162). -/
theorem hostRead_refused (s : State) (a : HostAddr) (be : ByteEnables)
    (h : (s.rstLow || malformedAccess a be) = true) : s.hostRead a be = s.answer .error none := by
  simp [State.hostRead, h]

/-- A write of a window register reaches the write queue of its link (R162, R163). -/
theorem hostWrite_window (s : State) (a : HostAddr) (d : Word) (hr : s.rstLow = false)
    (hm : malformedAccess a 0xF#4 = false) (hw : regionOf a ≠ .control) :
    s.hostWrite a 0xF#4 d = s.windowWrite (windowLink a) (windowDest a) (windowRegister a) (d.extractLsb' 0 16) := by
  unfold State.hostWrite
  simp only [hr, hm, Bool.or_self, Bool.false_eq_true, if_false]
  cases hreg : regionOf a
  · rfl
  · rfl
  · exact absurd hreg hw

/-- A write of a control word reaches that word (R162, Table 72). -/
theorem hostWrite_control (s : State) (a : HostAddr) (d : Word) (w : ControlWord) (hr : s.rstLow = false)
    (hm : malformedAccess a 0xF#4 = false) (hc : regionOf a = .control) (hw : controlWordAt a = some w) :
    s.hostWrite a 0xF#4 d = s.writeControl w d := by
  unfold State.hostWrite
  simp [hr, hm, hc, hw]

end Sys2Proof.Machine
end

