-- ==== Sys2Proof/Tests/Slice0.lean ====
section
/-! SUPPORT. Tests of the model on small states, with expected results from the spec's tables and worked examples; the
refusals of the well-formedness checks; and, for each statement with hypotheses, states that meet them. -/

namespace Sys2Proof.Tests

set_option Elab.async false

open Sys2Proof Sys2Proof.Machine

/-! ## Small states -/

/-- The state after a command. -/
def after (c : Instr) (s : State) : State :=
  match exec c s with
  | .next t => t
  | .fault _ | .refused _ => s

/-- The part right after reset with the column of link 1 changed. -/
def onLink (f : Link → Link) : State := State.reset.updLink 1 f

/-- A column RUNNING with the line free and at rest, station 5 PRESENT. -/
def runs (k : Link) : Link :=
  { k.setStation 5 ⟨.present, 0, true⟩ with
    state := .running, slotTimer := .running ⟨2048, 0⟩, line := ⟨.idle, 0, false, [], .none, ⟨0, 0⟩⟩ }

/-- The key 1.5.20 of the worked example of Table 10. -/
def key20 : Key := ⟨1, 5, 20#8⟩

/-- An entry of key 1.5.20: VALID with value 0011h, every slot due. -/
def entry20 : Entry :=
  { key := key20, pos := 392, value := 0x0011#16, state := .valid, periodCode := 1, phase := 0, mask := 0xFFFF#16,
    noteFirst := false, pending := 0, doubt := false, failing := false, age := 3 }

/-- A record of 1.5.20. -/
def record20 : ChangeRecord := ⟨key20, 0x01#8, 0x0010#16, 15⟩

/-- The four argument words. -/
def withArgs (s : State) (a0 a1 a2 a3 : Word) : State := { s with args := #v[a0, a1, a2, a3] }

/-- Link 1 RUNNING with nothing to do. -/
def quiet : State := onLink runs

/-- Link 1 RUNNING with 1.5.20 watched. -/
def watched : State := { quiet with table := [entry20] }

/-- Link 1 RUNNING with a transaction under way, its request going out. -/
def busy (tx : Transaction) (f : Link → Link) : State :=
  onLink (fun k => f { runs k with inFlight := some tx, line := ⟨.request, 1, false, [], .none, ⟨tx.frameBits, 0⟩⟩ })

/-- The same in the last attempt. -/
def lastTry (k : Link) : Link := { k with line := { k.line with attempt := 3 } }

/-- Link 1 in the last REFCLK period of a bit time of an attempt, with so many bit times left to the phase, the reply bits
gathered so far, and the levels to come. -/
def atBit (tx : Transaction) (phase : Phase) (left : Nat) (reply levels : List Bool) : State :=
  { onLink (fun k => { runs k with
      inFlight := some tx, line := ⟨phase, 1, phase != .request, reply, .none, ⟨left, 49⟩⟩ }) with
    sld := #v[[], levels, [], []] }

/-- The line of link 1 after a step. -/
def lineAfter (s : State) : LineState :=
  match step s with
  | .next t => (t.link 1).line
  | .fault _ | .refused _ => (s.link 1).line

/-- The levels of a legal reply to a request that went out unopposed. -/
def answer (r : Reply) (tx : Transaction) : List Bool := r.levels tx

/-- The queue of link 1 in Table 10, its head in flight. -/
def table10 : State :=
  onLink (fun k => { runs k with
    inFlight := some (.write 5 20#8 0x0011#16), line := ⟨.request, 1, false, [], .none, ⟨46, 0⟩⟩,
    queue := [⟨.station 5, 20#8, 0x0011#16, true⟩, ⟨.station 7, 3#8, 0x0400#16, false⟩,
      ⟨.station 5, 20#8, 0x0022#16, false⟩] })

/-! ## Well-formed commands: one ill-formed command for each check -/

/-- A code of Table 73 is no unknown command. -/
theorem test_wf_unknownCommand_with_a_code : WellFormed (.unknownCommand 0x25#32) = false := by decide

/-- A window write has a window address. -/
theorem test_wf_windowWrite_in_the_control_block : WellFormed (.windowWrite 0x80000#20 0xF#4 0#32) = false := by decide

/-- A lookup is a cached-window read. -/
theorem test_wf_lookup_in_the_direct_window : WellFormed (.lookup 0x40000#20 0xF#4) = false := by decide

/-- A demand read has a window address. -/
theorem test_wf_demandRead_in_the_control_block : WellFormed (.demandRead 0x80030#20 0xF#4) = false := by decide

/-- A register write is a control-block write. -/
theorem test_wf_registerWrite_in_a_window : WellFormed (.registerWrite 0x7FFFC#20 0xF#4 0#32) = false := by decide

/-- The words with a row of their own are no register write. -/
theorem test_wf_registerWrite_of_a_word_with_a_row :
    WellFormed (.registerWrite 0x80004#20 0xF#4 0#32) = false ∧ WellFormed (.registerWrite 0x80044#20 0xF#4 0#32) = false ∧
      WellFormed (.registerWrite 0x80124#20 0xF#4 0#32) = false ∧
      WellFormed (.registerWrite 0x80168#20 0xF#4 0#32) = false := by decide

/-- An attempt has at most 67 bit times (Table 53). -/
theorem test_wf_attemptEnd_too_long : WellFormed (.attemptEnd 0 (List.replicate 68 true)) = false := by decide

/-- No row of the table gives bits: no word spells a command. -/
theorem test_decode_none : decodeTableWord 32 0x01 = none := by decide

/-! ## Table commands -/

/-- Worked example "WATCH behind queued writes": position 392, WRITING with the newest data and pending 2. -/
theorem test_watch_behind_queued_writes :
    (after .watch (withArgs table10 0x00010514#32 0x00000203#32 0x000000FF#32 0#32)).results = #v[0#32, 392#32, 0#32, 0#32] ∧
    (after .watch (withArgs table10 0x00010514#32 0x00000203#32 0x000000FF#32 0#32)).table.map
      (fun e => (e.state, e.value, e.pending)) = [(.writing, 0x0022#16, 2)] := by decide +kernel

/-- UNWATCH of the only entry, its record with it (R12). -/
theorem test_unwatch_takes_the_record_along :
    (after .unwatch (withArgs { watched with list := [record20] } 0x00010514#32 0#32 0#32 0#32)).list = [] := by
  decide +kernel

/-- MODIFY of a REFUSED entry makes it PRIMING (R15). -/
theorem test_modify_of_a_refused_entry :
    (after .modify (withArgs { quiet with table := [{ entry20 with state := .refused }] } 0x00010514#32 0x00013F07#32
      0x1234#32 0#32)).table = [{ entry20 with
        state := .priming, periodCode := 7, phase := 63, mask := 0x1234#16, noteFirst := true }] := by decide +kernel

/-- The snapshot of the worked example's entry by Table 78: link 1, station 5, register 14h, value 0022h, mask 00FFh,
phase 2, code 3, WRITING, pending 2, position 188h. -/
theorem test_inspect_words :
    (after .inspect (withArgs { quiet with table := [{ entry20 with
      value := 0x0022#16, state := .writing, periodCode := 3, phase := 2, mask := 0x00FF#16, pending := 2, age := 0 }] }
      0x00010514#32 0#32 0#32 0#32)).results = #v[0#32, 0x45140022#32, 0x00FF0232#32, 0x00002188#32] := by decide +kernel

/-- ENUMERATE finds the entry at its own position and none after it (R17). -/
theorem test_enumerate_at_and_after_the_entry :
    (after .enumerate (withArgs watched 392#32 0#32 0#32 0#32)).results[0] = 0#32 ∧
    (after .enumerate (withArgs watched 393#32 0#32 0#32 0#32)).results = #v[1#32, 0#32, 0#32, 0#32] := by decide +kernel

/-- PURGE of all links and all stations counts what it removes (Table 12). -/
theorem test_purge_everything :
    (after .purge (withArgs watched 0x800F3F00#32 0#32 0#32 0#32)).results = #v[0#32, 1#32, 0#32, 0#32] := by decide +kernel

/-! ## Station commands -/

/-- HOLD of 0 slots is indefinite, and a hold of 10000h slots is refused with BAD_ARGUMENT (R132, R167). -/
theorem test_hold_indefinite_and_too_long :
    ((after .hold (withArgs quiet 0x00010500#32 0#32 0#32 0#32)).station 1 5).standing = .held ⟨.host, none⟩ ∧
    (after .hold (withArgs quiet 0x00010500#32 0x10000#32 0#32 0#32)).results[0] = 4#32 := by decide +kernel

/-- RELEASE brings a seen station back to PRESENT (R133). -/
theorem test_release_to_present :
    ((after .release (withArgs (onLink (fun k => (runs k).setStation 5 ⟨.held ⟨.station, some 2⟩, 3, true⟩))
      0x00010500#32 0#32 0#32 0#32)).station 1 5) = ⟨.present, 3, true⟩ := by decide +kernel

/-- FORGET of a station that is not MISSING is refused with NOT_MISSING (R134). -/
theorem test_forget_not_missing :
    (after .forget (withArgs quiet 0x00010500#32 0#32 0#32 0#32)).results[0] = 7#32 := by decide +kernel

/-! ## Link commands -/

/-- LINK_RUN of an OFF link starts a full slot of 64 × 32 bit times (R70, R82). -/
theorem test_linkRun_starts_a_full_slot :
    ((after .linkRun (withArgs State.reset 0x00010000#32 0#32 0#32 0#32)).link 1).slotTimer = .running ⟨2048, 0⟩ := by
  decide +kernel

/-- LINK_STOP leaves an OFF link OFF and halts an idle RUNNING one at once (R91). -/
theorem test_linkStop_off_and_running :
    ((after .linkStop (withArgs State.reset 0x00010000#32 0#32 0#32 0#32)).link 1).state = .off ∧
    ((after .linkStop (withArgs quiet 0x00010000#32 0#32 0#32 0#32)).link 1).state = .halted := by decide +kernel

/-- LINK_RESET empties the queue and makes a WRITING entry DOUBTFUL with WRITE_FAILED listed (R46, R147). -/
theorem test_linkReset_of_a_writing_entry :
    (after .linkReset (withArgs { table10 with table := [{ entry20 with state := .writing, pending := 2 }] }
      0x00010000#32 0#32 0#32 0#32)).list = [⟨key20, 0x04#8, 0x0011#16, 1⟩] ∧
    ((after .linkReset (withArgs table10 0x00010000#32 0#32 0#32 0#32)).link 1).queue = [] := by decide +kernel

/-- LINK_CONFIG takes the ends of its ranges and refuses a RUNNING link with LINK_BUSY (R96). -/
theorem test_linkConfig_ranges :
    (after .linkConfig (withArgs State.reset 0x00010000#32 999#32 7#32 15#32)).results[0] = 0#32 ∧
    (after .linkConfig (withArgs State.reset 0x00010000#32 2#32 7#32 15#32)).results[0] = 4#32 ∧
    (after .linkConfig (withArgs quiet 0x00010000#32 3#32 0#32 1#32)).results[0] = 5#32 := by decide +kernel

/-- SET_SLOT takes 4 and refuses 3 (R84). -/
theorem test_setSlot_lower_end :
    ((after .setSlot (withArgs quiet 0x00010000#32 4#32 0#32 0#32)).link 1).slotSetting = 4 ∧
    ((after .setSlot (withArgs quiet 0x00010000#32 3#32 0#32 0#32)).link 1).slotSetting = 32 := by decide +kernel

/-- SET_POSITION takes 63 while OFF and refuses 64 (R85). -/
theorem test_setPosition_upper_end :
    ((after .setPosition (withArgs State.reset 0x00010000#32 63#32 0#32 0#32)).link 1).position = 63 ∧
    (after .setPosition (withArgs State.reset 0x00010000#32 64#32 0#32 0#32)).results[0] = 4#32 := by decide +kernel

/-! ## The host port -/

/-- A value that is no code is kept in COMMAND and answered with UNKNOWN_COMMAND (R164, R165). -/
theorem test_unknownCommand : (after (.unknownCommand 0x26#32) quiet).results[0] = 8#32 ∧
    (after (.unknownCommand 0x26#32) quiet).command = 0x26#32 := by decide +kernel

/-- The address example of R163: 1FC24h is link 1, station 63, register 9; a write there is a broadcast. -/
theorem test_windowWrite_broadcast_address :
    ((after (.windowWrite 0x1FC24#20 0xF#4 0xABCD1234#32) table10).link 1).queue.getLast? =
      some ⟨.broadcast, 9#8, 0x1234#16, false⟩ ∧
    (after (.windowWrite 0x1FC24#20 0xF#4 0#32) State.reset).hterm = .error := by decide +kernel

/-- A lookup of 1.5.20 by Table 75: age 3, stale above 2 × 1, VALID, value 0011h. -/
theorem test_lookup_word : (after (.lookup 0x11450#20 0xF#4) watched).hdata = some 0x03080011#32 := by decide +kernel

/-- The first demand read of Table 71, on a free line: RETRY, and the slot goes out at once. -/
theorem test_demandRead_on_a_free_line :
    (after (.demandRead 0x11444#20 0xF#4) quiet).hterm = .retry ∧
    ((after (.demandRead 0x11444#20 0xF#4) quiet).link 1).inFlight = some (.demandRead 5 17#8) := by decide +kernel

/-- A take by Table 77: valid, count 15, link 1, station 5, register 14h; and 0 from an empty list. -/
theorem test_take_words :
    (after (.take 0xF#4) { watched with list := [record20] }).hdata = some 0x8F004514#32 ∧
    (after (.take 0xF#4) { watched with list := [record20] }).taken = #v[0x00010010#32, 0x03080011#32, 0#32] ∧
    (after (.take 0xF#4) watched).hdata = some 0#32 := by decide +kernel

/-- A threshold of 0 is refused (R60). -/
theorem test_noticeCtlWrite_threshold_zero :
    (after (.noticeCtlWrite 0xF#4 0x00010500#32) quiet).hterm = .error ∧
    (after (.noticeCtlWrite 0xF#4 0x00010501#32) quiet).linger = 5#8 := by decide +kernel

/-- An acknowledgement clears the named events only (R66). -/
theorem test_linkEventsWrite_acknowledges :
    ((after (.linkEventsWrite 1 0xF#4 0xFFFFFFE1#32) (onLink (fun k => { k with events := 0x33#6 }))).link 1).events =
      0x12#6 := by decide +kernel

/-- The enables are replaced, bits outside ignored (R67). -/
theorem test_linkEnablesWrite_replaces :
    ((after (.linkEnablesWrite 1 0xF#4 0xFFFFFFC5#32) quiet).link 1).enables = 0x05#6 := by decide +kernel

/-- ARG3 at 8001Ch; a partial-width write ends ERROR (R162, R164). -/
theorem test_registerWrite_arg3 :
    (after (.registerWrite 0x8001C#20 0xF#4 7#32) quiet).args = #v[0#32, 0#32, 0#32, 7#32] ∧
    (after (.registerWrite 0x8001C#20 0x7#4 7#32) quiet).hterm = .error := by decide +kernel

/-! ## Resets and timers -/

/-- Pin reset empties the table and turns every link OFF (R23, R106). -/
theorem test_pinReset_clears : (after .pinReset watched).table = [] ∧ ((after .pinReset watched).link 1).state = .off := by
  decide +kernel

/-- The quiet time of 29 bit times runs after RST_N rises (R120). -/
theorem test_pinResetRelease_quiet_time :
    ((after .pinResetRelease (after .pinReset watched)).link 2).line.timer = ⟨29, 0⟩ := by decide +kernel

/-- The wheel goes from 63 to 0, and a VALID entry of period 1 is captured and issued (R72, R75). -/
theorem test_slotTick_at_63 :
    ((after (.slotTick 1) { watched with links := watched.links.map (fun k => { k with position := 63 }) }).link 1).position
      = 0 ∧
    ((after (.slotTick 1) watched).link 1).inFlight = some (.poll 5 20#8) := by decide +kernel

/-- The last slot of a hold (R131). -/
theorem test_holdExpiry_ends_the_hold :
    ((after (.holdExpiry 1 5) (onLink (fun k => (runs k).setStation 5 ⟨.held ⟨.station, some 1⟩, 0, true⟩))).station 1
      5).standing = .present := by decide +kernel

/-- The last slot of a result: DEMAND_EXPIRED (R159). -/
theorem test_demandExpiry_raises :
    ((after (.demandExpiry 1) (onLink (fun k => { runs k with demand := .ready key20 none 1 }))).link 1).events =
      0x08#6 := by decide +kernel

/-- The linger timer runs out (R62). -/
theorem test_lingerExpiry_sets_lingered :
    (after .lingerExpiry { watched with list := [record20], linger := 1#8, lingerTimer := some ⟨1, 0⟩ }).lingered =
      true := by decide +kernel

/-! ## The line -/

/-- The checks of Table 44. -/
theorem test_checks :
    (Transaction.poll 3 1#8).check = 0xF8#8 ∧ (Transaction.write 3 1#8 0x1234#16).check = 0xB3#8 ∧
    (Transaction.write 62 255#8 0xFFFF#16).check = 0xC2#8 ∧ (Reply.ackRead 0x1234#16).check = 0xB4#8 ∧
    Reply.ackWrite.check = 0xFA#8 ∧ Reply.reject.check = 0xF9#8 ∧ (Reply.hold 3#8).check = 0xF9#8 := by decide +kernel

/-- The READ frame of 0.3.1 written out by Table 42: lead, start, 3, 3, 1, F8h. -/
theorem test_read_frame :
    (Transaction.poll 3 1#8).frame =
      [true, true, true, true, false, false, true, true, false, false, false, false, true, true,
        false, false, false, false, false, false, false, true, true, true, true, true, true, false, false, false] := by
  decide +kernel

/-- The last attempt of Table 48, its reply written out: code 5, data 1234h, check B4h. -/
theorem test_attemptEnd_ack :
    classify (.poll 3 1#8) false (List.replicate 32 true ++
      [true, false, true, false, false, false, true, false, false, true, false, false, false, true, true, false, true,
        false, false, true, false, true, true, false, true, false, false]) = .ack 0x1234#16 := by decide +kernel

/-- A poll answered with a new value lists CHANGED with the old one (R33). -/
theorem test_attemptEnd_changes_the_entry :
    (after (.attemptEnd 1 (answer (.ackRead 0x0012#16) (.poll 5 20#8)))
      { busy (.poll 5 20#8) id with table := [entry20] }).list = [⟨key20, 0x01#8, 0x0011#16, 1⟩] := by decide +kernel

/-- The retry's lead begins after the gap, as attempt 2 (R114). -/
theorem test_gapEnd_begins_attempt_2 :
    ((after (.gapEnd 1) (onLink (fun k => { runs k with
      inFlight := some (.poll 5 20#8), line := ⟨.gap, 1, true, [], .gap, ⟨1, 0⟩⟩ }))).link 1).line =
      ⟨.request, 2, false, [], .none, ⟨30, 0⟩⟩ := by decide +kernel

/-- The quiet time ends on an idle line (R120). -/
theorem test_quietTimeEnd_idle : ((after (.quietTimeEnd 1) State.reset).link 1).line.rest = .none := by decide +kernel

/-- The turnaround of 2 bit times (R112). -/
theorem test_requestSentWhole_turnaround :
    ((after (.requestSentWhole 1) (busy (.poll 5 20#8) id)).link 1).line = ⟨.turnaround, 1, true, [], .none, ⟨2, 0⟩⟩ := by
  decide +kernel

/-! ## Bit times -/

/-- Low at the first lead bit: the attempt ends there and the gap runs (R111, R114). -/
theorem test_contention_at_the_first_bit :
    lineAfter (atBit (.poll 5 20#8) .request 30 [] [false, true]) = ⟨.gap, 1, false, [], .gap, ⟨2, 0⟩⟩ := by decide +kernel

/-- Low at the start bits the part drives itself: no contention (R111). -/
theorem test_no_contention_at_the_start_bits :
    lineAfter (atBit (.poll 5 20#8) .request 26 [] [false]) = ⟨.request, 1, false, [], .none, ⟨25, 0⟩⟩ := by decide +kernel

/-- The third code bit of a HOLD asks for quanta and check, 16 bits (Table 45). -/
theorem test_window_lengthens_by_its_code :
    lineAfter (atBit (.poll 5 20#8) .reply 1 [false, true] [true]) =
      ⟨.reply, 1, true, [false, true, true], .none, ⟨16, 0⟩⟩ := by decide +kernel

/-- A released code closes the window after 3 bits: SILENT, so the gap of a retry runs (R112, Table 47). -/
theorem test_window_of_a_released_code :
    (lineAfter (atBit (.poll 5 20#8) .reply 1 [true, true] [])).phase = .gap := by decide +kernel

/-- The attempts of Tables 48 and 50: 35 and 59 bit times, and 51 of the silent write. -/
theorem test_durations :
    attemptBits (.poll 3 1#8) [] = 35 ∧ attemptBits (.poll 3 1#8) (answer (.ackRead 0x1234#16) (.poll 3 1#8)) = 59 ∧
    attemptBits (.write 9 40#8 0x0010#16) [] = 51 := by decide +kernel

/-! ## States that meet the hypotheses of the statements -/

/-- An address that names no control word. -/
theorem unnamed_80008 : ∀ w : ControlWord, w.address ≠ (0x80008#20).toNat := by
  intro w
  cases w <;> simp [ControlWord.address] <;> omega

/-- The last address of the control block names no word. -/
theorem unnamed_FFFFC : ∀ w : ControlWord, w.address ≠ (0xFFFFC#20).toNat := by
  intro w
  cases w <;> simp [ControlWord.address] <;> omega

/-- Link 1 with its slot timer in its last REFCLK period. -/
def slotEnds : State := onLink (fun k => { runs k with slotTimer := .running ⟨1, 49⟩ })

/-- Link 1 with its line timer in its last REFCLK period, in a phase. -/
def lineEnds (tx : Option Transaction) (phase : Phase) (rest : Rest) : State :=
  onLink (fun k => { runs k with inFlight := tx, line := ⟨phase, 1, phase = .reply, [], rest, ⟨1, 49⟩⟩ })

theorem witness_TimeRaisesTheEventsOfTheRows :
    (quiet.pending = [] ∧ quiet.rstLow = false ∧ TimerId.all.filter quiet.due = []) ∧
    TimerId.all.filter slotEnds.due = [.slot 1] ∧
    TimerId.all.filter ({ watched with list := [record20], linger := 1#8, lingerTimer := some ⟨1, 3199⟩ } : State).due =
      [.linger] ∧
    (TimerId.all.filter (lineEnds none .idle .gap).due = [.line 1] ∧ ((lineEnds none .idle .gap).link 1).line.rest = .gap) ∧
    (TimerId.all.filter (lineEnds none .idle .quiet).due = [.line 1] ∧
      ((lineEnds none .idle .quiet).link 1).line.rest = .quiet) ∧
    (TimerId.all.filter (lineEnds (some (.poll 5 20#8)) .request .none).due = [.line 1] ∧
      ((lineEnds (some (.poll 5 20#8)) .request .none).link 1).line.phase = .request) ∧
    (TimerId.all.filter (lineEnds (some (.broadcast 20#8 0#16)) .request .none).due = [.line 1] ∧
      ((lineEnds (some (.broadcast 20#8 0#16)) .request .none).link 1).line.phase = .request) ∧
    (TimerId.all.filter (lineEnds (some (.poll 5 20#8)) .turnaround .none).due = [.line 1] ∧
      ((lineEnds (some (.poll 5 20#8)) .turnaround .none).link 1).line.phase = .turnaround) ∧
    (TimerId.all.filter (lineEnds (some (.poll 5 20#8)) .reply .none).due = [.line 1] ∧
      ((lineEnds (some (.poll 5 20#8)) .reply .none).link 1).line.phase = .reply) := by decide +kernel

theorem witness_TimeRaisesTheEventsOfTheRows_bits :
    (let s := atBit (.poll 5 20#8) .request 30 [] [false];
      s.pending = [] ∧ s.rstLow = false ∧ TimerId.all.filter s.due = [.line 1] ∧ s.sldDrivenLow 1 = false ∧
      s.sld[1].headD true = false ∧ (s.link 1).divider ≤ (s.link 1).line.timer.sub ∧
      (s.link 1).line.timer.left + 0 = (Transaction.poll 5 20#8).frame.length) ∧
    (let s := atBit (.poll 5 20#8) .reply 1 [true, false] [true];
      TimerId.all.filter s.due = [.line 1] ∧ (s.link 1).line.reply.length + 1 <
        windowBits true (sampled ((s.link 1).line.reply ++ [s.sld[1].headD true]) 0 3)) ∧
    (let s := atBit (.poll 5 20#8) .reply 2 [true] [false];
      s.due (.line 1) = false ∧ (s.link 1).line.phase = .reply ∧ (s.link 1).line.rest = .none) ∧
    quiet.due (.line 1) = false := by decide +kernel

/-- A slot tick and the last bit of a reply window in one period, the slot tick in link 1 and the window too. -/
def bothEnd : State :=
  (atBit (.poll 5 20#8) .reply 1 [true, true] [true]).updLink 1 (fun k => { k with slotTimer := .running ⟨1, 49⟩ })

theorem witness_TimeRaisesTheEventsOfTheRows_two :
    bothEnd.pending = [] ∧ bothEnd.rstLow = false ∧ TimerId.all.filter bothEnd.due = [.line 1, .slot 1] := by
  decide +kernel

theorem witness_TimerRunsItsWholeTime : 1 ≤ 255 ∧ 1 ≤ 3200 ∧ 0 < 255 * 3200 ∧ 255 * 3200 - 1 < 255 * 3200 := by decide

theorem witness_AccessRefusedByItsForm :
    (accessOf .watch = some (0x80004#20, 0xF#4) ∧ ({ quiet with rstLow := true } : State).rstLow = true) ∧
    (accessOf (.take 0x7#4) = some (0x80030#20, 0x7#4) ∧ 0x7#4 ≠ 0xF#4) ∧
    (accessOf (.windowWrite 0x00002#20 0xF#4 0#32) = some (0x00002#20, 0xF#4) ∧ (0x00002#20).toNat % 4 ≠ 0) ∧
    (accessOf (.registerWrite 0x80008#20 0xF#4 0#32) = some (0x80008#20, 0xF#4) ∧ 0x80000 ≤ (0x80008#20).toNat ∧
      ∀ w : ControlWord, w.address ≠ (0x80008#20).toNat) :=
  ⟨by decide +kernel, by decide, by decide, by decide, by decide, unnamed_80008⟩

theorem witness_PortWords : quiet.rstLow = false ∧ (Instr.watch, 0x01#32) ∈ commandTable ∧
    (Instr.setPosition, 0x25#32) ∈ commandTable := by decide +kernel

/-- WATCH with a phase that its period code 1 does not allow. -/
def badSchedule : State := withArgs watched 0x00010515#32 0x00000101#32 0#32 0#32

theorem witness_RefusedCommandChangesOnlyTheResult :
    (Instr.watch, 0x01#32) ∈ commandTable ∧ badSchedule.rstLow = false ∧
    exec .watch badSchedule = .next (after .watch badSchedule) ∧ (after .watch badSchedule).results[0] ≠ 0#32 :=
  ⟨by decide, by decide +kernel, rfl, by decide +kernel⟩

theorem witness_CommonChecks :
    (quiet.rstLow = false ∧ (∀ p ∈ commandTable, p.2 ≠ 0#32) ∧ ∀ p ∈ commandTable, p.2 ≠ 0x26#32) ∧
    ((Instr.linkRun, 0x20#32) ∈ commandTable ∧ Instr.linkRun ∈ linkCommands ∧ 3 < field 0x00040000#32 19 16) ∧
    ((Instr.watch, 0x01#32) ∈ commandTable ∧ Instr.watch ∈ recordCommands ∧ 62 < field 0x00003F00#32 13 8) := by
  decide +kernel

theorem witness_AddressMap :
    ((0x7FFFC#20).toNat < 0x80000 ∧ (0x7FFFC#20).toNat % 4 = 0) ∧ (0#20).toNat < 0x80000 ∧
    (0x80000 ≤ (0xFFFFC#20).toNat ∧ ∀ w : ControlWord, w.address ≠ (0xFFFFC#20).toNat) ∧
    (controlWordAt 0x80000#20 = some .ident ∧ ControlWord.ident.writable = false) :=
  ⟨by decide, by decide, ⟨by decide, unnamed_FFFFC⟩, by decide, by decide⟩

theorem witness_TableNeverOverfills :
    ({ watched with list := [record20] } : State).TableSound ∧ ({ watched with list := [record20] } : State).ListSound := by
  unfold State.TableSound State.ListSound
  decide +kernel

/-- The bucket of 1.5.20 with four entries in it (R3: 98 again at registers 148, 84 with station 62, and so on). -/
def fullBucket : State :=
  { quiet with table := [{ entry20 with key := ⟨1, 5, 148#8⟩, pos := 392 }, { entry20 with key := ⟨1, 62, 19#8⟩, pos := 393 },
      { entry20 with key := ⟨1, 0, 65#8⟩, pos := 394 }, { entry20 with key := ⟨0, 0, 98#8⟩, pos := 395 }] }

theorem witness_WatchChecks :
    (badSchedule.rstLow = false ∧ NamesKey 0x00010515#32 ⟨1, 5, 21#8⟩ ∧ NamesSchedule 0x00000101#32 1 1 false ∧
      ¬ LegalSchedule 1 1 ∧ ¬ LegalSchedule 0 1 ∧ ¬ LegalSchedule 4 8 ∧ LegalSchedule 7 63) ∧
    (NamesKey 0x00010514#32 key20 ∧ NamesSchedule 0x00013F07#32 7 63 true ∧ ∃ e ∈ watched.table, e.key = key20) ∧
    ((∀ e ∈ fullBucket.table, e.key ≠ key20) ∧
      ∀ w, w < 4 → ∃ e ∈ fullBucket.table, e.pos = key20.bucket * 4 + w) := by decide +kernel

theorem witness_WatchCreatesAnEntry :
    (table10.rstLow = false ∧ NamesKey 0x00010514#32 key20 ∧ NamesSchedule 0x00000203#32 3 2 false ∧ LegalSchedule 3 2 ∧
      (∀ e ∈ table10.table, e.key ≠ key20) ∧ (∀ e ∈ table10.table, e.pos ≠ key20.bucket * 4 + 0) ∧
      (table10.station 1 5).standing ≠ .missing ∧
      ((table10.link 1).queue.filter (fun r => r.dest == .station 5 && r.register == 20#8)).getLast? =
        some ⟨.station 5, 20#8, 0x0022#16, false⟩) ∧
    ((∀ e ∈ fullBucket.table.take 3, e.pos ≠ key20.bucket * 4 + 3) ∧
      ∀ v, v < 3 → ∃ e ∈ fullBucket.table.take 3, e.pos = key20.bucket * 4 + v) ∧
    ((onLink (fun k => (runs k).setStation 5 ⟨.missing, 3, true⟩)).station 1 5).standing = .missing ∧
    ((quiet.link 1).queue.filter (fun r => r.dest == .station 5 && r.register == 20#8)) = [] := by decide +kernel

theorem witness_RemovalOfEntries :
    (watched.rstLow = false ∧ NamesKey 0x00010514#32 key20 ∧ ∃ e ∈ watched.table, e.key = key20) ∧
    (∀ e ∈ quiet.table, e.key ≠ key20) ∧
    (field 0x00040000#32 31 31 = 0 ∧ 3 < field 0x00040000#32 19 16) ∧ field 0x800F3F00#32 31 31 = 1 ∧
    field 0x00033E00#32 19 16 ≤ 3 := by decide +kernel

/-- An entry in the last table position, 511. -/
def entry511 : Entry := { entry20 with key := ⟨0, 0, 127#8⟩, pos := 511 }

theorem witness_ModifyReplacesTheSchedule :
    (watched.rstLow = false ∧ NamesKey 0x0000007F#32 ⟨0, 0, 127#8⟩ ∧ NamesSchedule 0x00000000#32 0 0 false ∧
      LegalSchedule 0 0) ∧
    (({ quiet with table := [entry511] } : State).find ⟨0, 0, 127#8⟩ = some entry511 ∧ entry511.pos < 512) ∧
    (∀ e ∈ watched.table, e.key ≠ ⟨0, 0, 127#8⟩) ∧
    (NamesSchedule 0x00000100#32 0 1 false ∧ ¬ LegalSchedule 0 1) := by decide +kernel

theorem witness_SnapshotsOfEntries :
    (watched.rstLow = false ∧ NamesKey 0x00010514#32 key20 ∧ watched.find key20 = some entry20) ∧
    (∀ e ∈ quiet.table, e.key ≠ key20) ∧
    (({ quiet with table := [entry511] } : State).TableSound ∧ (511#32).toNat ≤ 511 ∧ 511 ≤ entry511.pos) ∧
    (watched.TableSound ∧ ∀ e ∈ watched.table, e.pos < 511) ∧ 511 < (512#32).toNat := by
  unfold State.TableSound
  decide +kernel

/-- Station 5 of link 1 with a record. -/
def stationIs (r : StationRecord) : State := onLink (fun k => (runs k).setStation 5 r)

theorem witness_HoldHoldsAStation :
    (quiet.rstLow = false ∧ NamesRecord 0x00010500#32 1 5 ∧ NamesRecord 0x00033E00#32 3 62) ∧ 65535 < (0x10000#32).toNat ∧
    ((65535#32).toNat ≤ 65535 ∧ ((stationIs ⟨.missing, 3, true⟩).station 1 5).standing = .missing) ∧
    ((0#32).toNat ≤ 65535 ∧ ((stationIs ⟨.held ⟨.station, some 4⟩, 0, true⟩).station 1 5).standing ≠ .missing) := by
  decide +kernel

theorem witness_ReleaseEndsAHold :
    (quiet.rstLow = false ∧ NamesRecord 0x00010500#32 1 5) ∧ (∀ h, (quiet.station 1 5).standing ≠ .held h) ∧
    ((stationIs ⟨.held ⟨.host, none⟩, 0, false⟩).station 1 5).standing = .held ⟨.host, none⟩ := by
  refine ⟨by decide +kernel, fun h => ?_, by decide +kernel⟩
  rw [show (quiet.station 1 5).standing = .present by decide +kernel]
  exact nofun

theorem witness_ForgetAMissingStation :
    (quiet.rstLow = false ∧ NamesRecord 0x00010500#32 1 5 ∧ (quiet.station 1 5).standing ≠ .missing) ∧
    ((stationIs ⟨.missing, 15, false⟩).station 1 5).standing = .missing := by decide +kernel

theorem witness_StationViewWords :
    watched.rstLow = false ∧ ((stationIs ⟨.held ⟨.host, some 65535⟩, 15, false⟩).station 1 5).Sound ∧
    watched.entryCount 1 5 ≤ 256 := by
  refine ⟨by decide +kernel, ?_, by decide +kernel⟩
  rw [show (stationIs ⟨.held ⟨.host, some 65535⟩, 15, false⟩).station 1 5 = ⟨.held ⟨.host, some 65535⟩, 15, false⟩ by
    decide +kernel]
  exact ⟨by decide, by decide⟩

/-- Link 1 STOPPING behind a poll. -/
def stopping (tx : Transaction) (f : Link → Link) : State :=
  busy tx (fun k => f { k with state := .stopping, slotTimer := .paused ⟨700, 0⟩ })

/-- Link 1 HALTED by a line fault. -/
def halted : State :=
  onLink (fun k => { runs k with state := .halted, slotTimer := .stopped, haltReason := .lineFault, blockedRun := 4 })

theorem witness_LinkRun :
    (State.reset.rstLow = false ∧ NamesLink 0x00010000#32 1 ∧ (State.reset.link 1).state = .off) ∧
    (halted.link 1).state = .halted ∧
    (((stopping (.poll 5 20#8) id).link 1).state = .stopping ∧
      ((stopping (.poll 5 20#8) id).link 1).slotTimer = .paused ⟨700, 0⟩) ∧ (quiet.link 1).state = .running := by
  decide +kernel

theorem witness_LinkStop :
    (State.reset.rstLow = false ∧ NamesLink 0x00010000#32 1 ∧ (State.reset.link 1).state ≠ .running) ∧
    ((quiet.link 1).state = .running ∧ (quiet.link 1).inFlight = none) ∧
    (((busy (.poll 5 20#8) id).link 1).state = .running ∧
      ((busy (.poll 5 20#8) id).link 1).inFlight = some (.poll 5 20#8) ∧
      ((busy (.poll 5 20#8) id).link 1).slotTimer = .running ⟨2048, 0⟩) := by decide +kernel

theorem witness_LinkReset :
    quiet.rstLow = false ∧ NamesLink 0x00010000#32 1 ∧ NamesLink 0x00030000#32 3 ∧ entry20.key.link = 1 := by
  decide +kernel

theorem witness_LinkConfig :
    (quiet.rstLow = false ∧ NamesLink 0x00010000#32 1 ∧ (quiet.link 1).state = .running) ∧
    (State.reset.link 1).state = .off ∧ (halted.link 1).state = .halted ∧
    ((3 ≤ (3#32).toNat ∧ (3#32).toNat ≤ 999) ∧ (7#32).toNat ≤ 7 ∧ 1 ≤ (15#32).toNat ∧ (15#32).toNat ≤ 15) ∧
    ¬ (3 ≤ (2#32).toNat) ∧ ¬ ((1000#32).toNat ≤ 999) ∧ ¬ ((8#32).toNat ≤ 7) ∧ ¬ (1 ≤ (0#32).toNat) ∧
    ¬ ((16#32).toNat ≤ 15) := by decide +kernel

theorem witness_SetSlot :
    (quiet.rstLow = false ∧ NamesLink 0x00010000#32 1) ∧ (3#32).toNat < 4 ∧ 255 < (256#32).toNat ∧
    (4 ≤ (4#32).toNat ∧ (255#32).toNat ≤ 255) ∧ 3 < field 0x00040000#32 19 16 ∧ (quiet.link 1).state = .running ∧
    (State.reset.link 1).state = .off := by decide +kernel

theorem witness_SetPosition :
    3 < field 0x00040000#32 19 16 ∧ (quiet.rstLow = false ∧ NamesLink 0x00010000#32 1) ∧ 63 < (64#32).toNat ∧
    ((63#32).toNat ≤ 63 ∧ (quiet.link 1).state = .running) ∧ ((63#32).toNat = (63 : Fin 64).val ∧
      (halted.link 1).state = .halted) := by decide +kernel

theorem witness_LinkStatusAndFaultWords : watched.rstLow = false := by decide +kernel

/-- A queue of n records for station 7. -/
def queued (n : Nat) : State := onLink (fun k => { runs k with queue := List.replicate n ⟨.station 7, 3#8, 0#16, false⟩ })

theorem witness_WindowWrite :
    (State.reset.rstLow = false ∧ (State.reset.link 1).state = .off) ∧
    ((quiet.link 1).state ≠ .off ∧ (5 : StationNo).val = (5 : Fin 64).val ∧
      ((stationIs ⟨.missing, 3, true⟩).station 1 5).standing = .missing) ∧
    (16 ≤ ((queued 16).link 1).queue.length ∧ ¬ ∃ st : StationNo, st.val = (63 : Fin 64).val ∧
      ((queued 16).station 1 st).standing = .missing) ∧
    ((queued 15).link 1).queue.length < 16 := by decide +kernel

theorem witness_LookupAnswersFromTheEntry : watched.rstLow = false ∧ watched.find entry20.key = some entry20 := by
  decide +kernel

/-- Link 1 with a demand slot. -/
def slotIs (d : DemandSlot) : State := onLink (fun k => { runs k with demand := d })

theorem witness_DemandReadAnswers :
    (quiet.rstLow = false ∧ ∀ e ∈ quiet.table, e.key ≠ key20) ∧
    (((slotIs (.ready key20 (some 0x0A0B#16) 1)).link 1).demand = .ready key20 (some 0x0A0B#16) 1 ∧
      watched.find key20 = some entry20) ∧
    ((slotIs (.ready key20 none 16)).link 1).demand = .ready key20 none 16 ∧
    ((halted.link 1).state ≠ .running ∧ (halted.link 1).demand = .empty) ∧
    ((quiet.link 1).state = .running ∧ ((stationIs ⟨.missing, 3, true⟩).station 1 5).standing = .missing ∧
      ((stationIs ⟨.held ⟨.host, none⟩, 0, true⟩).station 1 5).standing = .held ⟨.host, none⟩) ∧
    ((quiet.link 1).demand = .empty ∧ (quiet.station 1 5).standing = .present) ∧
    (((slotIs (.waiting key20)).link 1).demand ≠ .empty ∧
      ((slotIs (.ready ⟨1, 5, 21#8⟩ none 16)).link 1).demand = .ready ⟨1, 5, 21#8⟩ none 16) := by decide +kernel

theorem witness_TakeRemovesTheOldest :
    (quiet.rstLow = false ∧ quiet.list = []) ∧ (({ watched with list := [record20] } : State).list = [record20] ∧
      ({ watched with list := [record20] } : State).find record20.key = some entry20 ∧ record20.count ≤ 15 ∧
      record20.reasons = reasonSet [.changed]) := by
  decide +kernel

theorem witness_NoticeCtl :
    quiet.rstLow = false ∧ field 0x00010500#32 7 0 = 0 ∧ (field 0x00010001#32 7 0 ≠ 0 ∧
      field 0x00010001#32 15 8 = quiet.linger.toNat) ∧ field 0x0000FFFF#32 15 8 ≠ quiet.linger.toNat := by decide +kernel

theorem witness_LinkEventAndEnableWords : quiet.rstLow = false := by decide +kernel

theorem witness_NoticesAndAttn : watched.rstLow = false := by decide +kernel

theorem witness_ListingsOfOneEvent :
    (∀ r ∈ watched.list, r.key ≠ key20) ∧ (∃ r ∈ ({ watched with list := [record20] } : State).list, r.key = key20) ∧
    watched.TableSound := by
  unfold State.TableSound
  decide +kernel

theorem witness_SlotTick :
    (State.reset.link 1).state ≠ .running ∧ (quiet.link 1).state = .running ∧ ((slotIs (.ready key20 none 1)).link 1).demand = .ready key20 none 1 ∧
    ((slotIs (.ready key20 none 2)).link 1).demand = .ready key20 none 2 := by decide +kernel

theorem witness_CaptureGathersTheDue :
    watched.TableSound ∧ watched.capture 1 63 = [.poll key20] ∧
    ({ stationIs ⟨.missing, 3, true⟩ with table := [{ entry20 with state := .orphaned }] } : State).capture 1 0 =
      [.probe 5] := by
  unfold State.TableSound
  decide +kernel

theorem witness_Expiries :
    ((stationIs ⟨.held ⟨.host, some 1⟩, 0, false⟩).station 1 5).standing = .held ⟨.host, some 1⟩ ∧
    ((stationIs ⟨.held ⟨.host, some 1⟩, 0, false⟩).link 1).state = .running ∧
    ((slotIs (.ready key20 none 1)).link 1).demand = .ready key20 none 1 ∧
    ({ watched with list := [record20], linger := 1#8, lingerTimer := some ⟨1, 0⟩ } : State).lingerTimer = some ⟨1, 0⟩ := by
  decide +kernel

/-- Link 1 in a phase with a rest running. -/
def resting (tx : Option Transaction) (phase : Phase) (rest : Rest) : State :=
  onLink (fun k => { runs k with inFlight := tx, line := ⟨phase, 1, false, [], rest, ⟨2, 0⟩⟩ })

theorem witness_PhasesOfTheLine :
    (((resting (some (.poll 5 20#8)) .gap .gap).link 1).line.rest = .gap ∧
      ((resting (some (.poll 5 20#8)) .gap .gap).link 1).inFlight = some (.poll 5 20#8)) ∧
    (((resting (some (.poll 5 20#8)) .wait .quiet).link 1).line.rest = .quiet ∧
      ((resting (some (.poll 5 20#8)) .wait .quiet).link 1).line.phase = .wait) ∧
    (((resting none .idle .quiet).link 1).inFlight = none ∧ ((resting none .idle .quiet).link 1).line.phase = .idle ∧
      (resting none .idle .quiet).rstLow = false) ∧
    (((busy (.poll 5 20#8) id).link 1).inFlight = some (.poll 5 20#8) ∧
      (Transaction.poll 5 20#8).station? = some 5 ∧ ((busy (.poll 5 20#8) id).link 1).line.phase = .request ∧
      ((busy (.poll 5 20#8) id).link 1).line.rest = .none) := by decide +kernel

/-- The levels of an attempt that the stations leave without a reply. -/
def silence : List Bool := []

/-- The levels of an attempt that is contended at its first lead bit. -/
def contended : List Bool := [false]

/-- The levels of a reply whose code is 0. -/
def garbage (tx : Transaction) : List Bool := List.replicate (tx.frameBits + 2) true ++ [false, false, false]

/-- The poll of 1.5.20. -/
def poll20 : Transaction := .poll 5 20#8

/-- The demand read of 1.5.20. -/
def demand20 : Transaction := .demandRead 5 20#8

/-- The write of 0011h to 1.5.20. -/
def write20 : Transaction := .write 5 20#8 0x0011#16

/-- A column with that write at the head. -/
def heads (k : Link) : Link := { k with queue := [⟨.station 5, 20#8, 0x0011#16, true⟩] }

/-- A column with the slot's read on the line. -/
def reads (k : Link) : Link := { k with demand := .inFlight key20 }

theorem witness_AttemptIsRetried :
    (Attempting (busy write20 heads) 1 write20 contended .contended ∧ ¬ LastAttempt (busy write20 heads) 1) ∧
    (Attempting (busy poll20 id) 1 poll20 silence .silent ∧ poll20.isRead = true ∧ ¬ LastAttempt (busy poll20 id) 1) ∧
    Attempting (busy poll20 id) 1 poll20 (garbage poll20) .garbled := by decide +kernel

theorem witness_ReadCompletes :
    (Attempting (busy poll20 id) 1 poll20 (answer (.ackRead 1#16) poll20) (.ack 1#16) ∧
      ((busy poll20 id).link 1).state = .running) ∧
    (Attempting (busy demand20 reads) 1 demand20 (answer .reject demand20) .reject ∧
      ((busy demand20 reads).link 1).demand = .inFlight key20) ∧
    (LastAttempt (busy poll20 lastTry) 1 ∧ Attempting (busy poll20 lastTry) 1 poll20 (garbage poll20) .garbled) ∧
    (Attempting (busy poll20 (fun k => { lastTry k with blockedRun := 3 })) 1 poll20 contended .contended ∧
      ((busy poll20 (fun k => { lastTry k with blockedRun := 3 })).link 1).blockedRun ≤ 3) ∧
    (Attempting (stopping poll20 id) 1 poll20 (answer .reject poll20) .reject ∧
      ((stopping poll20 id).link 1).state = .stopping) ∧
    Attempting (atBit poll20 .reply 1 (Reply.reject.bits.take 10) []) 1 poll20 (answer .reject poll20) .reject ∧
    (Attempting (busy poll20 lastTry) 1 poll20 silence .silent ∧
      ¬ ((busy poll20 lastTry).station 1 5).IsLost ((busy poll20 lastTry).link 1).missLimit) := by decide +kernel

theorem witness_OutcomesAtAnEntry :
    (entry20.state = .valid ∧ (∃ i, i < 16 ∧ entry20.mask.getLsbD i = true ∧
      entry20.value.getLsbD i ≠ (0x0012#16 : Value).getLsbD i)) ∧
    0 < ({ entry20 with state := .writing, pending := 16 } : Entry).pending := by decide +kernel

theorem witness_WriteCompletes :
    (Attempting (busy write20 heads) 1 write20 (answer .ackWrite write20) (.ack 0#16) ∧
      ((busy write20 heads).link 1).state = .running ∧
      ((busy write20 heads).link 1).queue = [⟨.station 5, 20#8, 0x0011#16, true⟩]) ∧
    Attempting (busy write20 heads) 1 write20 (answer .reject write20) .reject ∧
    Attempting (busy write20 heads) 1 write20 (garbage write20) .garbled ∧
    (Attempting (busy write20 (fun k => lastTry (heads k))) 1 write20 contended .contended ∧
      LastAttempt (busy write20 (fun k => lastTry (heads k))) 1) ∧
    (Attempting (stopping write20 heads) 1 write20 silence .silent ∧
      ((stopping write20 heads).link 1).queue = [⟨.station 5, 20#8, 0x0011#16, true⟩]) ∧
    (Attempting (busy write20 heads) 1 write20 silence .silent ∧
      ¬ ((busy write20 heads).station 1 5).IsLost ((busy write20 heads).link 1).missLimit) := by decide +kernel

theorem witness_HoldReplyHoldsTheStation :
    (Attempting (busy write20 heads) 1 write20 (answer (.hold 1#8) write20) (.hold 1#8) ∧
      ((busy write20 heads).link 1).state = .running ∧ ((busy write20 heads).station 1 5).standing = .present) ∧
    (Attempting (busy demand20 reads) 1 demand20 (answer (.hold 255#8) demand20) (.hold 255#8) ∧
      ((busy demand20 reads).link 1).demand = .inFlight key20) ∧
    (Attempting (busy poll20 (fun k => k.setStation 5 ⟨.held ⟨.host, none⟩, 0, true⟩)) 1 poll20
        (answer (.hold 3#8) poll20) (.hold 3#8) ∧
      ((busy poll20 (fun k => k.setStation 5 ⟨.held ⟨.host, none⟩, 0, true⟩)).station 1 5).standing =
        .held ⟨.host, none⟩) ∧
    (Attempting (busy poll20 (fun k => k.setStation 5 ⟨.held ⟨.station, some 2⟩, 0, true⟩)) 1 poll20
        (answer (.hold 3#8) poll20) (.hold 3#8) ∧
      ((busy poll20 (fun k => k.setStation 5 ⟨.held ⟨.station, some 2⟩, 0, true⟩)).station 1 5).standing =
        .held ⟨.station, some 2⟩) := by decide +kernel

/-- A broadcast of 0011h to register 20. -/
def broadcast20 : Transaction := .broadcast 20#8 0x0011#16

/-- A column with that broadcast at the head. -/
def headsBroadcast (k : Link) : Link := { k with queue := [⟨.broadcast, 20#8, 0x0011#16, true⟩] }

theorem witness_BroadcastCompletes :
    (Attempting (busy broadcast20 headsBroadcast) 1 broadcast20 silence .sentWhole ∧
      ((busy broadcast20 headsBroadcast).link 1).state = .running ∧
      ((busy broadcast20 headsBroadcast).link 1).queue = [⟨.broadcast, 20#8, 0x0011#16, true⟩]) ∧
    (Attempting (busy broadcast20 (fun k => lastTry (headsBroadcast k))) 1 broadcast20 contended .contended ∧
      LastAttempt (busy broadcast20 (fun k => lastTry (headsBroadcast k))) 1 ∧
      ((busy broadcast20 (fun k => lastTry (headsBroadcast k))).link 1).blockedRun ≤ 3) := by decide +kernel

/-- Two silences counted for station 5. -/
def missed (k : Link) : Link := k.setStation 5 ⟨.present, 2, true⟩

theorem witness_StationIsLost :
    (Attempting (busy poll20 (fun k => lastTry (missed k))) 1 poll20 silence .silent ∧
      LastAttempt (busy poll20 (fun k => lastTry (missed k))) 1 ∧
      ((busy poll20 (fun k => lastTry (missed k))).station 1 5).IsLost
        ((busy poll20 (fun k => lastTry (missed k))).link 1).missLimit) ∧
    (Attempting (busy demand20 (fun k => reads (lastTry (missed k)))) 1 demand20 silence .silent ∧
      ((busy demand20 (fun k => reads (lastTry (missed k)))).link 1).demand = .inFlight key20) ∧
    (Attempting (busy write20 (fun k => heads (missed k))) 1 write20 silence .silent ∧
      ((busy write20 (fun k => heads (missed k))).link 1).queue = [⟨.station 5, 20#8, 0x0011#16, true⟩] ∧
      ((busy write20 (fun k => heads (missed k))).station 1 5).IsLost 3) := by decide +kernel

/-- The probe of station 5, MISSING. -/
def probing (f : Link → Link) : State := busy (.probe 5) (fun k => f (k.setStation 5 ⟨.missing, 3, true⟩))

theorem witness_ProbeCompletes :
    (Attempting (probing id) 1 (.probe 5) (answer (.ackRead 0#16) (.probe 5)) (.ack 0#16) ∧
      ((probing id).link 1).state = .running ∧ ((probing id).station 1 5).standing = .missing) ∧
    Attempting (probing id) 1 (.probe 5) (answer .reject (.probe 5)) .reject ∧
    Attempting (probing id) 1 (.probe 5) (answer (.hold 2#8) (.probe 5)) (.hold 2#8) ∧
    (Attempting (probing lastTry) 1 (.probe 5) silence .silent ∧ LastAttempt (probing lastTry) 1) ∧
    Attempting (probing lastTry) 1 (.probe 5) (garbage (.probe 5)) .garbled ∧
    (Attempting (probing lastTry) 1 (.probe 5) contended .contended ∧ ((probing lastTry).link 1).blockedRun ≤ 3) := by
  decide +kernel

/-- The probe of station 5, whose record a FORGET has reached since. -/
def forgotten (r : StationRecord) (f : Link → Link) : State := busy (.probe 5) (fun k => f (k.setStation 5 r))

theorem witness_ProbeCompletes_forgotten :
    (Attempting (forgotten ⟨.unseen, 0, false⟩ id) 1 (.probe 5) (answer .reject (.probe 5)) .reject ∧
      ((forgotten ⟨.unseen, 0, false⟩ id).station 1 5).standing ≠ .missing) ∧
    (Attempting (forgotten ⟨.unseen, 0, false⟩ id) 1 (.probe 5) (answer (.hold 1#8) (.probe 5)) (.hold 1#8) ∧
      ((forgotten ⟨.unseen, 0, false⟩ id).station 1 5).standing = .unseen) ∧
    (Attempting (forgotten ⟨.held ⟨.host, some 9⟩, 0, false⟩ id) 1 (.probe 5) (answer (.hold 1#8) (.probe 5)) (.hold 1#8) ∧
      ((forgotten ⟨.held ⟨.host, some 9⟩, 0, false⟩ id).station 1 5).standing = .held ⟨.host, some 9⟩) ∧
    (Attempting (forgotten ⟨.held ⟨.station, some 9⟩, 0, true⟩ id) 1 (.probe 5) (answer (.hold 255#8) (.probe 5))
        (.hold 255#8) ∧
      ((forgotten ⟨.held ⟨.station, some 9⟩, 0, true⟩ id).station 1 5).standing = .held ⟨.station, some 9⟩) ∧
    (Attempting (forgotten ⟨.unseen, 0, false⟩ lastTry) 1 (.probe 5) silence .silent ∧
      LastAttempt (forgotten ⟨.unseen, 0, false⟩ lastTry) 1 ∧
      ¬ ((forgotten ⟨.unseen, 0, false⟩ lastTry).station 1 5).IsLost
        ((forgotten ⟨.unseen, 0, false⟩ lastTry).link 1).missLimit) ∧
    (Attempting (forgotten ⟨.present, 2, true⟩ lastTry) 1 (.probe 5) silence .silent ∧
      ((forgotten ⟨.present, 2, true⟩ lastTry).station 1 5).IsLost
        ((forgotten ⟨.present, 2, true⟩ lastTry).link 1).missLimit) := by decide +kernel

theorem witness_CompletionsThatHalt :
    (Attempting (busy poll20 (fun k => { lastTry k with blockedRun := 3 })) 1 poll20 contended .contended ∧
      LastAttempt (busy poll20 (fun k => { lastTry k with blockedRun := 3 })) 1 ∧
      ((busy poll20 (fun k => { lastTry k with blockedRun := 3 })).link 1).blockedRun = 3 ∧
      ((busy poll20 (fun k => { lastTry k with blockedRun := 3 })).link 1).state = .running) ∧
    (Attempting (stopping broadcast20 headsBroadcast) 1 broadcast20 silence .sentWhole ∧
      ((stopping broadcast20 headsBroadcast).link 1).state = .stopping ∧
      ((stopping broadcast20 headsBroadcast).link 1).blockedRun ≤ 3) ∧
    (Attempting (stopping poll20 id) 1 poll20 (answer (.ackRead 7#16) poll20) (.ack 7#16)) := by decide +kernel

theorem witness_ArbiterPick :
    (State.reset.link 1).state ≠ .running ∧
    ((table10.link 1).inFlight ≠ none) ∧
    (((queued 1).link 1).state = .running ∧ ((queued 1).link 1).inFlight = none ∧ ((queued 1).link 1).pointer = .poll ∧
      ((queued 1).link 1).queue = [⟨.station 7, 3#8, 0#16, false⟩] ∧ ((queued 1).station 1 7).standing = .unseen) ∧
    (((slotIs (.waiting key20)).link 1).demand = .waiting key20 ∧ ((slotIs (.waiting key20)).link 1).queue = []) ∧
    (({ onLink (fun k => { runs k with batch := [.probe 5, .poll key20], pointer := .demand }) with
        table := [entry20] } : State).find key20 = some entry20 ∧ (quiet.station 1 5).standing = .present) := by
  decide +kernel

theorem witness_RequestFrameCarriesTheTransaction :
    let s := busy poll20 id;
    (s.link 1).line.Attempts ∧ (quiet.link 1).inFlight = none ∧ (s.link 1).line.phase = .request ∧
    (s.link 1).inFlight = some poll20 ∧ 0 < poll20.frame.length ∧
    (s.link 1).line.timer.left + 0 = poll20.frame.length := by decide +kernel

/-- A HOLD of 0 slots with a check that fits. -/
def holdOfNone : List Bool := List.replicate 32 true ++ bitsOf 3#3 ++ bitsOf 0#8 ++ bitsOf 0xFC#8

/-- Such a reply is GARBLED (R113), and so is an ACK of a read with no data but the check of a write ACK. -/
theorem test_garbled_holds_and_sums :
    classify poll20 false holdOfNone = .garbled ∧
    classify poll20 true (List.replicate 32 true ++ Reply.ackWrite.bits) = .garbled := by decide +kernel

theorem witness_RepliesAreReadBack_sums :
    poll20.isBroadcast = false ∧ Unopposed poll20 holdOfNone ∧
    sampled holdOfNone (poll20.frame.length + 2) 3 = 3#3 ∧ sampled holdOfNone (poll20.frame.length + 5) 8 = 0#8 ∧
    sampled (answer (.ackRead 1#16) poll20) (poll20.frame.length + 2) 3 = 5#3 ∧
    sampled (answer .ackWrite write20) (write20.frame.length + 2) 3 = 5#3 ∧
    sampled (answer .reject write20) (write20.frame.length + 2) 3 = 6#3 := by decide +kernel

theorem witness_RepliesAreReadBack :
    ((Reply.hold 255#8).answers poll20 = true ∧ Reply.ackWrite.answers write20 = true ∧
      (List.replicate 32 true).length = poll20.frame.length + 2 ∧ Unopposed poll20 (List.replicate 32 true)) ∧
    (poll20.isBroadcast = false ∧ Unopposed poll20 silence ∧
      ∀ i, poll20.frame.length + 2 ≤ i → i < poll20.frame.length + 5 → silence.getD i true = true) ∧
    (broadcast20.isBroadcast = true ∧ Unopposed broadcast20 silence) ∧
    (sampled (garbage poll20) (poll20.frame.length + 2) 3 ∉ [3#3, 5#3, 6#3, 7#3] ∧ Unopposed poll20 (garbage poll20)) ∧
    (3 < Reply.reject.bits.length ∧ Reply.reject.bits.length ≤ 3 + 8) := by
  refine ⟨by decide +kernel, ⟨by decide, by decide +kernel, fun i _ _ => rfl⟩, by decide +kernel, by decide +kernel,
    by decide +kernel⟩

/-- Link 1 RUNNING as the first lead bit of an attempt begins, with a full slot to run; linger runs, link 3 sends a request
by a slow bit time, and the other lines are at rest. -/
def crowded (tx : Transaction) (levels : List Bool) : State :=
  { (busy tx id).updLink 3 (fun k => { runs k with
      divider := 999, inFlight := some write20, line := ⟨.request, 1, false, [], .none, ⟨46, 0⟩⟩ }) with
    linger := 2#8, lingerTimer := some ⟨2, 0⟩, sld := #v[[false], levels, [], [true]] }.updLink 0 runs |>.updLink 2 runs

theorem witness_AttemptHoldsTheLine :
    (Reply.reject.answers write20 = true ∧ (List.replicate 48 true).length = write20.frame.length + 2 ∧
      Unopposed write20 (List.replicate 48 true)) ∧
    (poll20.isBroadcast = false ∧ Unopposed poll20 silence ∧ sampled silence (poll20.frame.length + 2) 3 = 7#3) ∧
    (Unopposed poll20 (garbage poll20) ∧
      sampled (garbage poll20) (poll20.frame.length + 2) 3 ∉ [3#3, 5#3, 6#3, 7#3]) ∧
    (broadcast20.isBroadcast = true ∧ Unopposed broadcast20 silence) ∧
    (poll20.frame.getD 3 true = true ∧ [true, true, true, false].getD 3 true = false ∧
      ∀ j, j < 3 → poll20.frame.getD j true = true → [true, true, true, false].getD j true = true) := by decide +kernel

/-- The timers that run beside an attempt of 43 bit times. -/
theorem witness_AttemptHoldsTheLine_timers :
    let s := crowded poll20 (answer .reject poll20)
    let periods := attemptBits poll20 s.sld[1] * ((s.link 1).divider + 1)
    s.pending = [] ∧ s.rstLow = false ∧ (s.link 1).inFlight = some poll20 ∧
    (s.link 1).line = ⟨.request, 1, false, [], .none, ⟨poll20.frame.length, 0⟩⟩ ∧ periods = 43 * 50 ∧
    (s.lingerTimer = some ⟨2, 0⟩ ∧ (⟨2, 0⟩ : Timer).Outlasts 3200 periods) ∧
    (∀ m t, (s.link m).slotTimer = .running t → t.Outlasts ((s.link m).divider + 1) periods) ∧
    (∀ m, m ≠ 1 → (s.link m).line.rest ≠ .none ∨ (s.link m).line.Attempts →
      (s.link m).line.timer.Outlasts ((s.link m).divider + 1) periods) ∧
    ∀ m, m ≠ 1 → (s.link m).line.rest = .none → (s.link m).line.phase = .request →
      ∃ other : Transaction, (s.link m).inFlight = some other ∧
        ∀ i, i < (s.link m).line.timer.left →
          other.frame.getD (other.frame.length - ((s.link m).line.timer.left - i)) true = true →
          s.sld[m].getD i true = true := by
  intro s periods
  have hp : periods = 2150 := by decide +kernel
  have hs : ∀ m, (s.link m).slotTimer = .running ⟨2048, 0⟩ ∧ 49 ≤ (s.link m).divider := by decide +kernel
  refine ⟨by decide +kernel, by decide +kernel, by decide +kernel, by decide +kernel, hp, ⟨by decide +kernel, ?_⟩,
    fun m t h => ?_, by decide +kernel, fun m _ _ hr => ?_⟩
  · rw [hp]; decide
  · rw [(hs m).1] at h
    cases h
    have := Nat.mul_le_mul_left 2048 (Nat.add_le_add_right (hs m).2 1)
    simp only [Timer.Outlasts, hp]
    omega
  · have h3 : ∀ m, (s.link m).line.phase = .request → m = 1 ∨ m = 3 := by decide +kernel
    obtain rfl | rfl := h3 m hr
    · contradiction
    · refine ⟨write20, by decide +kernel, ?_⟩
      decide +kernel

/-! ### A sound state that is not the reset state -/

/-- Link 1 RUNNING, its poll of the watched 1.5.20 going out, a write to 1.5.21 waiting, and a change record. -/
def sound : State :=
  { busy poll20 (fun k => { k with queue := [⟨.station 5, 21#8, 0x0022#16, false⟩] }) with
    table := [entry20], list := [record20], linger := 2#8, lingerTimer := some ⟨2, 0⟩ }

/-- That state with a slot tick of link 1 to come. -/
def soundThen : State := { sound with pending := [.slotTick 1] }

theorem soundThen_steps : ∃ t, step soundThen = .next t := ⟨_, rfl⟩

theorem soundThen_inFlight : (soundThen.link 1).inFlight = some poll20 := by decide +kernel

theorem soundThen_link (l : LinkNo) : l = 1 ∨ soundThen.link l = Link.reset := by
  revert l
  decide +kernel

theorem soundThen_station (st : StationNo) :
    (soundThen.link 1).station st = ⟨.present, 0, true⟩ ∨ (soundThen.link 1).station st = StationRecord.reset := by
  revert st
  decide +kernel

theorem reset_station (st : StationNo) : Link.reset.station st = StationRecord.reset := by
  revert st
  decide +kernel

theorem soundThen_table : soundThen.TableSound := by
  unfold State.TableSound
  decide +kernel

theorem witness_StepKeepsTheMirror : soundThen.MirrorSound ∧ ∃ t, step soundThen = .next t := by
  refine ⟨⟨soundThen_table, ?_, by decide, nofun, ?_⟩, soundThen_steps⟩
  · unfold State.ListSound
    decide +kernel
  · rintro t ⟨⟩
    decide

theorem witness_StepKeepsTheEngines : soundThen.EngineSound ∧ ∃ t, step soundThen = .next t := by
  refine ⟨fun l => ⟨?_, nofun⟩, soundThen_steps⟩
  obtain rfl | h := soundThen_link l
  · have h : (soundThen.link 1).slotTimer = .running ⟨2048, 0⟩ := by decide +kernel
    unfold Link.EngineSound Link.ConfigSound Link.SlotSound Link.LineSound
    rw [h]
    decide +kernel
  · rw [h]
    unfold Link.EngineSound Link.ConfigSound Link.SlotSound Link.LineSound
    rw [show Link.reset.slotTimer = .stopped from rfl]
    decide +kernel

theorem reset_column (l : LinkNo) : Link.reset.ColumnSound l := by
  refine ⟨fun st => ?_, ⟨by decide, nofun, nofun, nofun, nofun⟩, ⟨nofun, nofun, nofun, nofun⟩, nofun, fun _ => rfl,
    fun _ => ⟨rfl, fun st => ?_⟩⟩ <;> rw [reset_station]
  · exact ⟨by decide, rfl⟩
  · rfl

theorem witness_StepKeepsTheColumns : soundThen.ColumnSound ∧ ∃ t, step soundThen = .next t := by
  refine ⟨fun l => ?_, soundThen_steps⟩
  obtain rfl | h := soundThen_link l
  · have hd : (soundThen.link 1).demand = .empty := by decide +kernel
    refine ⟨fun st => ?_, ⟨by decide +kernel, by decide +kernel, by decide +kernel, by decide +kernel, ?_⟩,
      ⟨?_, ?_, ?_, ?_⟩, ?_, by decide +kernel, by decide +kernel⟩
    · obtain h | h := soundThen_station st <;> rw [h] <;> exact ⟨by decide, rfl⟩
    · rw [soundThen_inFlight]; exact nofun
    · rw [hd]; exact nofun
    · rw [hd]; exact nofun
    · rw [soundThen_inFlight]; exact nofun
    · rw [hd]; exact nofun
    · intro tx st h _
      obtain h | h := soundThen_station st <;> rw [h] <;> exact ⟨nofun, nofun⟩
  · rw [h]; exact reset_column l

theorem witness_StepKeepsTheAccount :
    soundThen.TableSound ∧ soundThen.ColumnSound ∧ soundThen.AccountSound ∧ ∃ t, step soundThen = .next t := by
  refine ⟨soundThen_table, witness_StepKeepsTheColumns.1, ?_, soundThen_steps⟩
  unfold State.AccountSound
  decide +kernel

theorem witness_StepKeepsTheArbiter : soundThen.ArbiterSound ∧ ∃ t, step soundThen = .next t := by
  refine ⟨fun l => ?_, soundThen_steps⟩
  obtain rfl | h := soundThen_link l
  · have hb : (soundThen.link 1).batch = [] := by decide +kernel
    rw [soundThen_inFlight, hb]
    exact ⟨nofun, nofun, nofun⟩
  · rw [h]; exact ⟨nofun, nofun, nofun⟩

/-! ### Changes of values, and links on their own -/

/-- The reply that brings 0012h. -/
def reply12 : List Bool := answer (.ackRead 0x0012#16) poll20

theorem witness_ValuesChangeInTwoWays :
    (WellFormed (.attemptEnd 1 reply12) = true ∧ sound.TableSound ∧
      exec (.attemptEnd 1 reply12) sound = .next (after (.attemptEnd 1 reply12) sound) ∧
      sound.find key20 = some entry20 ∧
      ((after (.attemptEnd 1 reply12) sound).find key20).map Entry.value = some 0x0012#16) ∧
    (WellFormed (.windowWrite 0x51450#20 0xF#4 0x33#32) = true ∧
      exec (.windowWrite 0x51450#20 0xF#4 0x33#32) sound = .next (after (.windowWrite 0x51450#20 0xF#4 0x33#32) sound) ∧
      ((after (.windowWrite 0x51450#20 0xF#4 0x33#32) sound).find key20).map Entry.value = some 0x0033#16) :=
  ⟨⟨by decide +kernel, soundThen_table, rfl, by decide +kernel, by decide +kernel⟩, by decide +kernel, rfl,
    by decide +kernel⟩

theorem witness_LinksActOnTheirOwn :
    (1 : LinkNo) ≠ 0 ∧ exec (.slotTick 1) sound = .next (after (.slotTick 1) sound) ∧
    exec (.attemptEnd 1 reply12) sound = .next (after (.attemptEnd 1 reply12) sound) ∧
    exec (.requestSentWhole 1) sound = .next (after (.requestSentWhole 1) sound) :=
  ⟨by decide, rfl, rfl, rfl⟩

end Sys2Proof.Tests
end

section
/-! PROOFS. The watch table (01): what an argument word names, how much the table and its change list can hold, and the
removal of entries by UNWATCH and PURGE. -/

namespace Sys2Proof.Machine

/-! ## What an argument word names (Table 76) -/

/-- The bits the model extracts are the field the spec's tables give by its two bit numbers. -/
theorem toNat_extractLsb'_eq_field (w : Word) (lo len : Nat) {hi : Nat} (h : hi + 1 = lo + len) :
    (w.extractLsb' lo len).toNat = field w hi lo := by
  simp [field, h, Nat.shiftRight_eq_div_pow]

theorem getLsbD_eq_field (w : Word) (i : Nat) : w.getLsbD i = (field w i i == 1) := by
  simp [field, BitVec.getLsbD, Nat.testBit_eq_decide_div_mod_eq, beq_eq_decide]

@[simp] theorem linkOf_val (l : LinkNo) : linkOf l.val = some l := by simp [linkOf]

@[simp] theorem stationOf_val (st : StationNo) : stationOf st.val = some st := by simp [stationOf]

theorem argLink_eq_linkOf (w : Word) : argLink w = linkOf (field w 19 16) := by
  rw [argLink, toNat_extractLsb'_eq_field w 16 4 rfl]

theorem argStation_eq_stationOf (w : Word) : argStation w = stationOf (field w 13 8) := by
  rw [argStation, toNat_extractLsb'_eq_field w 8 6 rfl]

/-- The link field names a link, or holds a number above 3. -/
theorem argLink_cases (w : Word) :
    (∃ l : LinkNo, argLink w = some l ∧ field w 19 16 = l.val) ∨ (argLink w = none ∧ 3 < field w 19 16) := by
  rw [argLink_eq_linkOf]
  by_cases h : field w 19 16 < 4
  · exact .inl ⟨⟨_, h⟩, by simp [linkOf, h], rfl⟩
  · exact .inr ⟨by simp [linkOf, h], by omega⟩

/-- The station field names a station record, or holds 63. -/
theorem argStation_cases (w : Word) :
    (∃ st : StationNo, argStation w = some st ∧ field w 13 8 = st.val) ∨ (argStation w = none ∧ field w 13 8 = 63) := by
  have hlt : field w 13 8 < 64 := Nat.mod_lt _ (by decide)
  rw [argStation_eq_stationOf]
  by_cases h : field w 13 8 < 63
  · exact .inl ⟨⟨_, h⟩, by simp [stationOf, h], rfl⟩
  · exact .inr ⟨by simp [stationOf, h], by omega⟩

theorem argKey_of_namesKey {w : Word} {k : Key} (h : NamesKey w k) : argKey w = some k := by
  obtain ⟨⟨hlink, hstation⟩, hregister⟩ := h
  have hreg : argRegister w = k.register :=
    BitVec.eq_of_toNat_eq ((toNat_extractLsb'_eq_field w 0 8 rfl).trans hregister)
  rw [argKey, argLink_eq_linkOf, argStation_eq_stationOf, hlink, hstation, linkOf_val, stationOf_val, hreg]

/-! ## Watched keys -/

theorem find_eq_none_iff (s : State) (k : Key) : s.find k = none ↔ ∀ e ∈ s.table, e.key ≠ k := by
  simp [State.find]

theorem find_isSome_iff (s : State) (k : Key) : (s.find k).isSome = true ↔ ∃ e ∈ s.table, e.key = k := by
  simp [State.find]

/-! ## How much the table and the change list hold -/

/-- Elements that `p` selects, told apart by a label out of a list of labels, are at most as many as the labels. -/
theorem countP_le_length_of_labels {α β : Type} {l : List α} (p : α → Bool) (f : α → β) (labels : List β)
    (hdistinct : l.Pairwise (fun a b => f a ≠ f b)) (hlabel : ∀ a ∈ l, p a = true → f a ∈ labels) :
    l.countP p ≤ labels.length := by
  have hnodup : ((l.filter p).map f).Nodup := List.pairwise_map.mpr (hdistinct.filter p)
  have hsub : (l.filter p).map f ⊆ labels := by
    intro b hb
    obtain ⟨a, ha, rfl⟩ := List.mem_map.mp hb
    obtain ⟨hmem, hp⟩ := List.mem_filter.mp ha
    exact hlabel a hmem hp
  calc l.countP p = ((l.filter p).map f).length := by rw [List.length_map, List.countP_eq_length_filter]
    _ ≤ labels.length := (hnodup.subperm hsub).length_le

theorem bucket_lt (k : Key) : k.bucket < 128 := Nat.mod_lt _ (by decide)

/-- The keys of one station of one link, one for each register. -/
def stationKeys (l : LinkNo) (st : StationNo) : List Key :=
  (List.finRange 256).map (fun i => ⟨l, st, BitVec.ofFin i⟩)

theorem mem_stationKeys (k : Key) : k ∈ stationKeys k.link k.station :=
  List.mem_map.mpr ⟨k.register.toFin, List.mem_finRange _, rfl⟩

@[simp] theorem length_stationKeys (l : LinkNo) (st : StationNo) : (stationKeys l st).length = 256 := by
  simp [stationKeys]

/-- No two entries share a position (R4). -/
theorem State.TableSound.distinct_pos {s : State} (h : s.TableSound) : s.table.Pairwise (fun a b => a.pos ≠ b.pos) :=
  h.1.imp (fun hlt => Nat.ne_of_lt hlt)

/-- No two entries share a key (R1). -/
theorem State.TableSound.distinct_key {s : State} (h : s.TableSound) : s.table.Pairwise (fun a b => a.key ≠ b.key) :=
  h.2.1

/-- An entry stands in one of the four ways of its bucket (R4). -/
theorem State.TableSound.pos_div {s : State} (h : s.TableSound) {e : Entry} (he : e ∈ s.table) :
    e.pos / 4 = e.key.bucket := (h.2.2 e he).1

theorem State.TableSound.pos_lt {s : State} (h : s.TableSound) {e : Entry} (he : e ∈ s.table) : e.pos < 512 := by
  have hdiv := h.pos_div he
  have hlt := bucket_lt e.key
  omega

/-- The positions tell the entries apart, and there are 512. -/
theorem State.TableSound.length_table_le {s : State} (h : s.TableSound) : s.table.length ≤ 512 := by
  have hcount := countP_le_length_of_labels (fun _ => true) Entry.pos (List.range 512) h.distinct_pos
    (fun e he _ => List.mem_range.mpr (h.pos_lt he))
  simpa using hcount

/-- The ways tell the entries of a bucket apart, and there are four. -/
theorem State.TableSound.countP_bucket_le {s : State} (h : s.TableSound) (b : Nat) :
    s.table.countP (fun e => e.key.bucket == b) ≤ 4 := by
  refine (countP_le_length_of_labels _ Entry.pos (List.range' (b * 4) 4) h.distinct_pos ?_).trans_eq List.length_range'
  intro e he hb
  have hdiv := h.pos_div he
  have hbucket := eq_of_beq hb
  exact List.mem_range'_1.mpr (by omega)

/-- The registers tell the entries of a station apart, and there are 256. -/
theorem State.TableSound.entryCount_le {s : State} (h : s.TableSound) (l : LinkNo) (st : StationNo) :
    s.entryCount l st ≤ 256 := by
  refine (countP_le_length_of_labels _ Entry.key (stationKeys l st) h.distinct_key ?_).trans_eq
    (length_stationKeys l st)
  intro e _ hst
  obtain ⟨rfl, rfl⟩ : e.key.link = l ∧ e.key.station = st := by simpa using hst
  exact mem_stationKeys e.key

/-- Every record of the change list has a watched key of its own (R50). -/
theorem State.ListSound.length_list_le {s : State} (h : s.ListSound) : s.list.length ≤ s.table.length := by
  obtain ⟨hdistinct, hrecord⟩ := h
  have hcount := countP_le_length_of_labels (fun _ => true) ChangeRecord.key (s.table.map Entry.key) hdistinct
    (fun r hr _ => List.mem_map.mpr ((find_isSome_iff s r.key).mp (hrecord r hr).1))
  simpa using hcount

theorem bucketSum_le (k : Key) : k.register.toNat + 9 * k.station.val + 33 * k.link.val ≤ 912 := by
  have hregister := k.register.isLt
  have hstation := k.station.isLt
  have hlink := k.link.isLt
  omega

/-- Settles O11: in a sound table positions, ways and registers tell entries apart, and records have keys of
their own. -/
theorem tableNeverOverfills : Obligations.TableNeverOverfills := by
  unfold Obligations.TableNeverOverfills
  refine ⟨fun k => ⟨rfl, bucketSum_le k⟩, fun s hs => ?_⟩
  exact ⟨hs.length_table_le, hs.countP_bucket_le, hs.entryCount_le,
    fun hl => hl.length_list_le.trans hs.length_table_le⟩

/-! ## Commands at the port, in the words of the statements -/

theorem exec_unwatch (s : State) : exec .unwatch s = execUnwatch s := rfl

theorem exec_purge (s : State) : exec .purge s = execPurge s := rfl

theorem number_eq_resultWord (c : ResultCode) : c.number = resultWord c := by cases c <;> rfl

theorem numberWord_eq (n : Nat) : numberWord n = BitVec.ofNat 32 (n % 1024) := by
  apply BitVec.eq_of_toNat_eq
  have happend : (0#22 ++ BitVec.ofNat 10 n).toNat = n % 1024 := by
    rw [BitVec.toNat_append]
    simp
  rw [numberWord, happend, BitVec.toNat_ofNat]
  omega

/-- A command that runs to a result with the code stored makes up, stored and ended DONE, what the statements call done
(R164, R165). -/
theorem onCommand_eq_commandDone {s t : State} {code : Word} {run : State → State} {c : ResultCode} {r1 r2 r3 : Word}
    (hr : s.rstLow = false)
    (hrun : run { s with command := code } = ({ t with command := code } : State).result c r1 r2 r3) :
    s.onCommand code run = t.commandDone code c r1 r2 r3 := by
  rw [onCommand_high s code run hr, hrun]
  simp [State.result, State.answer, State.commandDone, number_eq_resultWord]

/-! ## UNWATCH and PURGE -/

theorem removeEntries_eq_withoutKeys (s : State) (p : Key → Bool) : s.removeEntries p = s.withoutKeys p := by
  rw [removeEntries_eq, removeRecords_eq]
  rfl

/-- UNWATCH of a watched key removes its entry with its record (R12). -/
theorem cmdUnwatch_watched {s : State} {k : Key} (hk : NamesKey s.args[0] k) (hw : ∃ e ∈ s.table, e.key = k) :
    s.cmdUnwatch = (s.withoutKeys (fun x => x == k)).finish .ok := by
  obtain ⟨e, hfind⟩ := Option.isSome_iff_exists.mp ((find_isSome_iff s k).mpr hw)
  simp [State.cmdUnwatch, State.arg0, argKey_of_namesKey hk, hfind, removeEntries_eq_withoutKeys]

theorem cmdUnwatch_unwatched {s : State} {k : Key} (hk : NamesKey s.args[0] k) (hw : ∀ e ∈ s.table, e.key ≠ k) :
    s.cmdUnwatch = s.finish .notFound := by
  simp [State.cmdUnwatch, State.arg0, argKey_of_namesKey hk, (find_eq_none_iff s k).mpr hw]

/-- The station selector of PURGE: 63 for all stations, or the station named (Table 12). -/
def purgeStation (w : Word) (k : Key) : Bool := field w 13 8 == 63 || k.station.val == field w 13 8

/-- The selection of PURGE: bit 31 for all links, or the link named, and of these the station selector (Table 12). -/
def purgeSelection (w : Word) (k : Key) : Bool :=
  (field w 31 31 == 1 || k.link.val == field w 19 16) && purgeStation w k

/-- The selectors of PURGE by the fields of its word, the link yet to be checked (R18). -/
theorem purgeSelects_eq (w : Word) :
    purgeSelects w =
      if field w 31 31 == 1 then some (purgeStation w)
      else (argLink w).map (fun l k => k.link == l && purgeStation w k) := by
  have hstation : purgeStation w = fun k => (argStation w).all (fun st => k.station == st) := by
    funext k
    obtain ⟨st, hst, hfield⟩ | ⟨hst, hfield⟩ := argStation_cases w
    · have hne : st.val ≠ 63 := by omega
      simp [purgeStation, hst, hfield, hne, Fin.ext_iff, beq_eq_decide]
    · simp [purgeStation, hst, hfield]
  rw [purgeSelects, getLsbD_eq_field, hstation]
  cases argStation w <;> cases argLink w <;> rfl

/-- Neither all links nor a link is named, and PURGE refuses the word (R18). -/
theorem purgeSelects_refused {w : Word} (hall : field w 31 31 = 0) (hlink : 3 < field w 19 16) :
    purgeSelects w = none := by
  obtain ⟨l, -, hl⟩ | ⟨hnone, -⟩ := argLink_cases w
  · omega
  · simp [purgeSelects_eq, hall, hnone]

/-- A word that PURGE takes selects by its two selectors (R18, Table 12). -/
theorem purgeSelects_taken {w : Word} (h : field w 31 31 = 1 ∨ field w 19 16 ≤ 3) :
    purgeSelects w = some (purgeSelection w) := by
  by_cases hall : field w 31 31 = 1
  · have hsel : purgeSelection w = purgeStation w := by funext k; simp [purgeSelection, hall]
    simp [purgeSelects_eq, hall, hsel]
  · obtain ⟨l, hl, hfield⟩ | ⟨-, hgt⟩ := argLink_cases w
    · have hsel : purgeSelection w = fun k => k.link == l && purgeStation w k := by
        funext k
        simp [purgeSelection, hall, hfield, Fin.ext_iff, beq_eq_decide]
      simp [purgeSelects_eq, hall, hl, hsel]
    · omega

theorem cmdPurge_refused {s : State} (hall : field s.args[0] 31 31 = 0) (hlink : 3 < field s.args[0] 19 16) :
    s.cmdPurge = s.finish .badArgument := by
  simp [State.cmdPurge, State.arg0, purgeSelects_refused hall hlink]

/-- PURGE removes what it selects and leaves the number removed (R19). -/
theorem cmdPurge_taken {s : State} (h : field s.args[0] 31 31 = 1 ∨ field s.args[0] 19 16 ≤ 3) :
    s.cmdPurge =
      (s.withoutKeys (purgeSelection s.args[0])).result .ok
        (BitVec.ofNat 32 (s.table.countP (fun e => purgeSelection s.args[0] e.key) % 1024)) 0#32 0#32 := by
  simp [State.cmdPurge, State.arg0, purgeSelects_taken h, removeEntries_eq_withoutKeys, numberWord_eq]

theorem exec_unwatch_watched {s : State} {k : Key} (hr : s.rstLow = false) (hk : NamesKey s.args[0] k)
    (hw : ∃ e ∈ s.table, e.key = k) :
    exec .unwatch s = .next ((s.withoutKeys (fun x => x == k)).commandDone 0x02#32 .ok 0#32 0#32 0#32) := by
  rw [exec_unwatch, execUnwatch]
  exact congrArg _ (onCommand_eq_commandDone hr (cmdUnwatch_watched (s := { s with command := 0x02#32 }) hk hw))

theorem exec_unwatch_unwatched {s : State} {k : Key} (hr : s.rstLow = false) (hk : NamesKey s.args[0] k)
    (hw : ∀ e ∈ s.table, e.key ≠ k) :
    exec .unwatch s = .next (s.commandDone 0x02#32 .notFound 0#32 0#32 0#32) := by
  rw [exec_unwatch, execUnwatch]
  exact congrArg _ (onCommand_eq_commandDone hr (cmdUnwatch_unwatched (s := { s with command := 0x02#32 }) hk hw))

theorem exec_purge_refused {s : State} (hr : s.rstLow = false) (hall : field s.args[0] 31 31 = 0)
    (hlink : 3 < field s.args[0] 19 16) :
    exec .purge s = .next (s.commandDone 0x06#32 .badArgument 0#32 0#32 0#32) := by
  rw [exec_purge, execPurge]
  exact congrArg _ (onCommand_eq_commandDone hr (cmdPurge_refused (s := { s with command := 0x06#32 }) hall hlink))

theorem exec_purge_taken {s : State} (hr : s.rstLow = false)
    (h : field s.args[0] 31 31 = 1 ∨ field s.args[0] 19 16 ≤ 3) :
    exec .purge s =
      .next ((s.withoutKeys (purgeSelection s.args[0])).commandDone 0x06#32 .ok
        (BitVec.ofNat 32 (s.table.countP (fun e => purgeSelection s.args[0] e.key) % 1024)) 0#32 0#32) := by
  rw [exec_purge, execPurge]
  exact congrArg _ (onCommand_eq_commandDone hr (cmdPurge_taken (s := { s with command := 0x06#32 }) h))

/-- Settles O14, by the outcomes of the two commands: UNWATCH watched or not, PURGE taken or refused. -/
theorem removalOfEntries : Obligations.RemovalOfEntries := by
  unfold Obligations.RemovalOfEntries
  exact ⟨fun _ _ hr hk => ⟨exec_unwatch_watched hr hk, exec_unwatch_unwatched hr hk⟩,
    fun _ hr => ⟨exec_purge_refused hr, exec_purge_taken hr⟩⟩

end Sys2Proof.Machine
end

section
/-! PROOFS. The change list and the notices (02, 03): what the listings of one event make of the list and of the linger
timer, and the words NOTICE_CTL, LIST_STATUS, LINK_EVENTS and LINK_ENABLES with the ATTN output. -/

namespace Sys2Proof.Machine

/-! ## A set of reasons (R51, Table 77) -/

theorem getLsbD_bit (r x : Reason) : r.bit.getLsbD (reasonPlace x) = decide (x = r) := by
  cases r <;> cases x <;> rfl

/-- Reasons gathered onto a set add their own bits to it. -/
theorem getLsbD_foldl_bit (rs : List Reason) (b : BitVec 8) (x : Reason) :
    (rs.foldl (fun b r => b ||| r.bit) b).getLsbD (reasonPlace x) =
      (b.getLsbD (reasonPlace x) || decide (x ∈ rs)) := by
  induction rs generalizing b with
  | nil => simp
  | cons r rs ih => simp [ih, getLsbD_bit, Bool.or_assoc]

theorem getLsbD_reasonSet (rs : List Reason) (x : Reason) :
    (reasonSet rs).getLsbD (reasonPlace x) = decide (x ∈ rs) := by
  simp [reasonSet, getLsbD_foldl_bit]

/-! ## Which keys are listed -/

theorem listed_eq_true_iff (s : State) (k : Key) : s.listed k = true ↔ ∃ r ∈ s.list, r.key = k := by
  simp [State.listed]

theorem listed_eq_false_iff (s : State) (k : Key) : s.listed k = false ↔ ∀ r ∈ s.list, r.key ≠ k := by
  simp [State.listed]

@[simp] theorem join_key (r : ChangeRecord) (rs : List Reason) : (r.join rs).key = r.key := rfl

/-- After a listing its key is listed, and every other key as before. -/
theorem listed_listing (s : State) (k : Key) (rs : List Reason) (old : Value) (x : Key) :
    (s.listing k rs old).listed x = (s.listed x || k == x) := by
  cases h : s.listed k
  · simp [listing_unlisted s h, State.listed]
  · have hkey : ∀ r : ChangeRecord, (if r.key = k then r.join rs else r).key = r.key := fun r => by split <;> rfl
    have hx : (k == x) = true → s.listed x = true := fun hkx => eq_of_beq hkx ▸ h
    have hsame : (s.listing k rs old).listed x = s.listed x := by
      simp [listing_listed s h, State.listed, List.any_map, Function.comp_def, hkey]
    cases hkx : k == x <;> simp [hsame, hx, hkx]

/-! ## The listings of one event (R54) -/

/-- The record that a listing of an entry appends (R52). -/
def Entry.newRecord (g : Entry → List Reason) (e : Entry) : ChangeRecord :=
  ⟨e.key, reasonSet (g e), e.value, min 15 (g e).length⟩

/-- A record held once the entries of an event have been listed: the entry of its key, if it is one of them, has joined
its reasons (R53). -/
def ChangeRecord.joined (g : Entry → List Reason) (es : List Entry) (r : ChangeRecord) : ChangeRecord :=
  (es.find? (fun e => e.key == r.key)).elim r (fun e => r.join (g e))

/-- Entries listed one after another, each with its reasons and its value. -/
def State.listAll (s : State) (g : Entry → List Reason) (es : List Entry) : State :=
  es.foldl (fun t e => t.listing e.key (g e) e.value) s

/-- The list after the listings of one event: the records held with the reasons joined, then the new ones (R54). -/
def State.listAfter (s : State) (g : Entry → List Reason) (es : List Entry) : List ChangeRecord :=
  s.list.map (ChangeRecord.joined g es) ++ (es.filter (fun e => !s.listed e.key)).map (Entry.newRecord g)

@[simp] theorem joined_nil (g : Entry → List Reason) : ChangeRecord.joined g [] = id := rfl

theorem joined_cons_same (g : Entry → List Reason) {e : Entry} {es : List Entry} {r : ChangeRecord}
    (h : r.key = e.key) : r.joined g (e :: es) = r.join (g e) := by
  simp [ChangeRecord.joined, h]

theorem joined_cons_ne (g : Entry → List Reason) {e : Entry} {es : List Entry} {r : ChangeRecord}
    (h : r.key ≠ e.key) : r.joined g (e :: es) = r.joined g es := by
  simp [ChangeRecord.joined, beq_false_of_ne (Ne.symm h)]

/-- A record that no entry of the event names stays as it is. -/
theorem joined_of_forall_ne (g : Entry → List Reason) {es : List Entry} {r : ChangeRecord}
    (h : ∀ e ∈ es, e.key ≠ r.key) : r.joined g es = r := by
  have hnone : es.find? (fun e => e.key == r.key) = none := by simpa using h
  simp [ChangeRecord.joined, hnone]

/-- The listing of an entry of a fresh key keeps unlisted which of the later keys were. -/
theorem filter_unlisted_listing (s : State) (rs : List Reason) {e : Entry} {es : List Entry}
    (hne : ∀ x ∈ es, e.key ≠ x.key) :
    es.filter (fun x => !(s.listing e.key rs e.value).listed x.key) = es.filter (fun x => !s.listed x.key) :=
  List.filter_congr fun x hx => by simp [listed_listing, hne x hx]

/-- The first listing of an event and then the others make the list that the event makes. -/
theorem listAfter_cons (s : State) (g : Entry → List Reason) {e : Entry} {es : List Entry}
    (hne : ∀ x ∈ es, e.key ≠ x.key) :
    (s.listing e.key (g e) e.value).listAfter g es = s.listAfter g (e :: es) := by
  have hfresh : ∀ r : ChangeRecord, r.key = e.key → r.joined g es = r := fun r hr =>
    joined_of_forall_ne g fun x hx => hr ▸ (hne x hx).symm
  rw [State.listAfter, filter_unlisted_listing s (g e) hne, State.listAfter]
  cases h : s.listed e.key
  · have hheld : s.list.map (ChangeRecord.joined g es) = s.list.map (ChangeRecord.joined g (e :: es)) :=
      List.map_congr_left fun r hr => (joined_cons_ne g ((listed_eq_false_iff s e.key).mp h r hr)).symm
    have hnew := hfresh (e.newRecord g) rfl
    simp only [Entry.newRecord] at hnew
    simp [listing_unlisted s h, h, hheld, Entry.newRecord, countUp, hnew]
  · have hjoin : ∀ r : ChangeRecord,
        (if r.key = e.key then r.join (g e) else r).joined g es = r.joined g (e :: es) := by
      intro r
      split
      next hr => rw [joined_cons_same g hr, hfresh (r.join (g e)) hr]
      next hr => rw [joined_cons_ne g hr]
    simp [listing_listed s h, h, hjoin, Function.comp_def]

/-- The listings of entries of distinct keys: the list of R54, and the linger timer of a new oldest record where the list
was empty (R61). -/
theorem listAll_eq (s : State) (g : Entry → List Reason) {es : List Entry}
    (hkeys : es.Pairwise (fun a b => a.key ≠ b.key)) :
    s.listAll g es =
      { s with
        list := s.listAfter g es
        lingered := if s.list.isEmpty && !es.isEmpty then false else s.lingered
        lingerTimer :=
          if s.list.isEmpty && !es.isEmpty then (if s.linger = 0#8 then none else some ⟨s.linger.toNat, 0⟩)
          else s.lingerTimer } := by
  induction es generalizing s with
  | nil => simp [State.listAll, State.listAfter]
  | cons e es ih =>
    obtain ⟨hne, hrest⟩ := List.pairwise_cons.mp hkeys
    have hstep : s.listAll g (e :: es) = (s.listing e.key (g e) e.value).listAll g es := rfl
    rw [hstep, ih _ hrest, listAfter_cons s g hne]
    cases h : s.listed e.key
    · cases hl : s.list <;> simp [listing_unlisted s h, hl]
    · obtain ⟨r, hr, -⟩ := (listed_eq_true_iff s e.key).mp h
      have hl : s.list ≠ [] := List.ne_nil_of_mem hr
      simp [listing_listed s h, hl]

/-! ## An event at the table -/

/-- An entry that an event selects and lists with a reason. -/
def Entry.lists (p : Entry → Bool) (f : Entry → Entry × List Reason) (e : Entry) : Bool := p e && !(f e).2.isEmpty

/-- An event changes the entries it selects and then lists those that have a reason. -/
theorem entryEvent_eq_listAll (s : State) (p : Entry → Bool) (f : Entry → Entry × List Reason) :
    s.entryEvent p f =
      ({ s with table := s.table.map (fun e => if p e then (f e).1 else e) } : State).listAll (fun e => (f e).2)
        (s.table.filter (Entry.lists p f)) := by
  simp only [State.entryEvent, State.listAll, List.foldl_filter, Entry.lists]
  congr
  funext t e
  by_cases hp : p e = true <;> by_cases he : (f e).2.isEmpty = true <;> simp [hp, he]

/-- Where keys are distinct, a selection finds a key exactly when it selects the entry of that key. -/
theorem find?_filter_of_distinct_key (q : Entry → Bool) (k : Key) {es : List Entry}
    (hkeys : es.Pairwise (fun a b => a.key ≠ b.key)) :
    (es.filter q).find? (fun e => e.key == k) = (es.find? (fun e => e.key == k)).filter q := by
  induction es with
  | nil => rfl
  | cons e es ih =>
    obtain ⟨hne, hrest⟩ := List.pairwise_cons.mp hkeys
    by_cases hk : e.key = k
    · have hnone : (es.filter q).find? (fun x => x.key == k) = none := by
        simpa using fun x hx _ => hk ▸ (hne x hx).symm
      cases hq : q e <;> simp [hk, hq, hnone, Option.filter_some]
    · cases hq : q e <;> simp [hk, hq, ih hrest]

/-- What an event makes of a record, by the entry of its key. -/
theorem joined_filter_table {s : State} (hs : s.TableSound) (g : Entry → List Reason) (q : Entry → Bool)
    (r : ChangeRecord) :
    r.joined g (s.table.filter q) =
      (s.find r.key).elim r (fun e => if q e then r.join (g e) else r) := by
  rw [ChangeRecord.joined, find?_filter_of_distinct_key q r.key hs.distinct_key, State.find]
  cases s.table.find? (fun e => e.key == r.key) with
  | none => rfl
  | some e => cases hq : q e <;> simp [hq, Option.filter_some]

/-- An event over a sound table: the table, the list in the order of R54, and the linger timer of a new oldest record. -/
theorem entryEvent_eq {s : State} (hs : s.TableSound) (p : Entry → Bool) (f : Entry → Entry × List Reason) :
    s.entryEvent p f =
      { s with
        table := s.table.map (fun e => if p e then (f e).1 else e)
        list := s.listAfter (fun e => (f e).2) (s.table.filter (Entry.lists p f))
        lingered := if s.list.isEmpty && s.table.any (Entry.lists p f) then false else s.lingered
        lingerTimer :=
          if s.list.isEmpty && s.table.any (Entry.lists p f) then
            (if s.linger = 0#8 then none else some ⟨s.linger.toNat, 0⟩)
          else s.lingerTimer } := by
  have hany : (!(s.table.filter (Entry.lists p f)).isEmpty) = s.table.any (Entry.lists p f) := by
    rw [Bool.eq_iff_iff]
    simp
  rw [entryEvent_eq_listAll, listAll_eq _ _ (hs.distinct_key.filter _), hany]
  rfl

/-- Settles O35: the reasons one by one, one listing by whether its key is listed, and the listings of one event by
induction over the entries that list. -/
theorem listingsOfOneEvent : Obligations.ListingsOfOneEvent := by
  unfold Obligations.ListingsOfOneEvent
  refine ⟨getLsbD_reasonSet, fun s k rs old => ⟨fun h => ?_, fun h => ?_⟩, fun s p f hs => ⟨?_, hs.1.filter _⟩⟩
  · simp [listing_unlisted s ((listed_eq_false_iff s k).mpr h), countUp]
  · rw [listing_listed s ((listed_eq_true_iff s k).mpr h)]
    rfl
  · rw [entryEvent_eq hs, State.listAfter, funext (joined_filter_table hs _ _), List.filter_filter]
    congr 2
    · exact List.map_congr_left fun r _ => by cases s.find r.key <;> rfl
    · exact congrArg _ (List.filter_congr fun e _ => Bool.and_comm _ _)

end Sys2Proof.Machine
end

section
/-! PROOFS. The words of the notice unit and of the link events (02, 03): how the port reaches a control-block word, the
fields of NOTICE_CTL, LIST_STATUS, LINK_EVENTS and LINK_ENABLES, and the ATTN output. -/

namespace Sys2Proof.Machine

/-! ## A control-block word at the port (R162, Table 72) -/

/-- An address of the form the port takes, at which a control-block word stands (R162, Table 72). -/
abbrev HoldsWord (a : HostAddr) (w : ControlWord) : Prop :=
  malformedAccess a 0xF#4 = false ∧ regionOf a = .control ∧ controlWordAt a = some w

theorem answer_eq_ended (s : State) (t : Termination) (d : Option Word) : s.answer t d = s.ended t d := rfl

theorem hostWrite_word {s : State} {a : HostAddr} {w : ControlWord} (d : Word) (hr : s.rstLow = false)
    (h : HoldsWord a w) : s.hostWrite a 0xF#4 d = s.writeControl w d := by
  obtain ⟨hform, hregion, hword⟩ := h
  exact hostWrite_control s a d w hr hform hregion hword

/-- A read of a control-block word but TAKE ends DONE with the word and changes nothing (R162, Table 72). -/
theorem hostRead_word {s : State} {a : HostAddr} {w : ControlWord} (hr : s.rstLow = false) (h : HoldsWord a w)
    (hw : w ≠ .take) : s.hostRead a 0xF#4 = s.ended .done (some (s.readControl w)) := by
  obtain ⟨hform, hregion, hword⟩ := h
  simp only [State.hostRead, hr, hform, Bool.or_self, Bool.false_eq_true, if_false, hregion, hword]
  cases w with
  | take => exact absurd rfl hw
  | _ => rfl

theorem holdsWord_listStatus : HoldsWord 0x80040#20 .listStatus := by decide

theorem holdsWord_noticeCtl : HoldsWord 0x80044#20 .noticeCtl := by decide

theorem holdsWord_linkEvents : ∀ l : LinkNo, HoldsWord (BitVec.ofNat 20 (0x80104 + l.val * 0x20)) (.linkEvents l) := by
  decide

theorem holdsWord_linkEnables :
    ∀ l : LinkNo, HoldsWord (BitVec.ofNat 20 (0x80108 + l.val * 0x20)) (.linkEnables l) := by
  decide

theorem linkEventsAddr_eq (l : LinkNo) : linkEventsAddr l = BitVec.ofNat 20 (0x80104 + l.val * 0x20) :=
  (BitVec.ofNat_add 0x80104 (l.val * 0x20)).symm

theorem linkEnablesAddr_eq (l : LinkNo) : linkEnablesAddr l = BitVec.ofNat 20 (0x80108 + l.val * 0x20) :=
  (BitVec.ofNat_add 0x80108 (l.val * 0x20)).symm

theorem exec_noticeCtlWrite (s : State) (d : Word) :
    exec (.noticeCtlWrite 0xF#4 d) s = .next (s.hostWrite 0x80044#20 0xF#4 d) := rfl

theorem exec_registerWrite (s : State) (a : HostAddr) (d : Word) :
    exec (.registerWrite a 0xF#4 d) s = .next (s.hostWrite a 0xF#4 d) := rfl

theorem exec_linkEventsWrite (s : State) (l : LinkNo) (d : Word) :
    exec (.linkEventsWrite l 0xF#4 d) s = .next (s.hostWrite (linkEventsAddr l) 0xF#4 d) := rfl

theorem exec_linkEnablesWrite (s : State) (l : LinkNo) (d : Word) :
    exec (.linkEnablesWrite l 0xF#4 d) s = .next (s.hostWrite (linkEnablesAddr l) 0xF#4 d) := rfl

/-! ## The fields of a word (Tables 75 and 80) -/

/-- The number of a word put together of two parts. -/
theorem toNat_append_eq_add {m n : Nat} (x : BitVec m) (y : BitVec n) : (x ++ y).toNat = x.toNat * 2 ^ n + y.toNat := by
  rw [BitVec.toNat_append, ← Nat.shiftLeft_add_eq_or_of_lt y.isLt, Nat.shiftLeft_eq]

theorem toNat_noticeCtlWord (s : State) :
    s.noticeCtlWord.toNat = s.noticeEnable.toNat * 65536 + s.linger.toNat * 256 + s.threshold.toNat := by
  change (0#15 ++ BitVec.ofBool s.noticeEnable ++ s.linger ++ s.threshold).toNat = _
  simp only [toNat_append_eq_add, BitVec.toNat_ofBool, BitVec.toNat_ofNat]
  omega

theorem toNat_listStatusWord (s : State) :
    s.listStatusWord.toNat = s.lingered.toNat * 131072 + s.noticeCondition.toNat * 65536 + s.list.length % 1024 := by
  change (0#14 ++ BitVec.ofBool s.lingered ++ BitVec.ofBool s.noticeCondition ++ 0#6 ++
    BitVec.ofNat 10 s.list.length).toNat = _
  simp only [toNat_append_eq_add, BitVec.toNat_ofBool, BitVec.toNat_ofNat]
  omega

/-- NOTICE_CTL shows the three settings (R60, Table 75). -/
theorem noticeCtlWord_fields (s : State) :
    field s.noticeCtlWord 7 0 = s.threshold.toNat ∧ field s.noticeCtlWord 15 8 = s.linger.toNat ∧
      field s.noticeCtlWord 16 16 = s.noticeEnable.toNat ∧ field s.noticeCtlWord 31 17 = 0 := by
  have hthreshold := s.threshold.isLt
  have hlinger := s.linger.isLt
  have henable := s.noticeEnable.toNat_lt
  simp only [field, toNat_noticeCtlWord]
  omega

/-- LIST_STATUS shows the length, the notice condition and the lingered indicator (R59, Table 75). -/
theorem listStatusWord_fields (s : State) :
    field s.listStatusWord 9 0 = s.list.length % 1024 ∧ field s.listStatusWord 15 10 = 0 ∧
      field s.listStatusWord 16 16 = s.noticeCondition.toNat ∧ field s.listStatusWord 17 17 = s.lingered.toNat ∧
      field s.listStatusWord 31 18 = 0 := by
  have hcondition := s.noticeCondition.toNat_lt
  have hlingered := s.lingered.toNat_lt
  simp only [field, toNat_listStatusWord]
  omega

/-- A word of six bits shows them and nothing else (Table 80). -/
theorem sixBits_fields (b : BitVec 6) :
    field (b.setWidth 32) 5 0 = b.toNat ∧ field (b.setWidth 32) 31 6 = 0 := by
  have hb := b.isLt
  simp only [field, BitVec.toNat_setWidth]
  omega

/-! ## What a link reset leaves (R94) -/

@[simp] theorem entryEvent_noticeEnable (s : State) (p : Entry → Bool) (f : Entry → Entry × List Reason) :
    (s.entryEvent p f).noticeEnable = s.noticeEnable := by rw [entryEvent_frame]
@[simp] theorem entryEvent_threshold (s : State) (p : Entry → Bool) (f : Entry → Entry × List Reason) :
    (s.entryEvent p f).threshold = s.threshold := by rw [entryEvent_frame]
@[simp] theorem entryEvent_linger (s : State) (p : Entry → Bool) (f : Entry → Entry × List Reason) :
    (s.entryEvent p f).linger = s.linger := by rw [entryEvent_frame]

@[simp] theorem resetLink_noticeEnable (s : State) (l : LinkNo) : (s.resetLink l).noticeEnable = s.noticeEnable := by
  simp [State.resetLink]
@[simp] theorem resetLink_threshold (s : State) (l : LinkNo) : (s.resetLink l).threshold = s.threshold := by
  simp [State.resetLink]
@[simp] theorem resetLink_linger (s : State) (l : LinkNo) : (s.resetLink l).linger = s.linger := by
  simp [State.resetLink]

@[simp] theorem link_resetLink_same (s : State) (l : LinkNo) : (s.resetLink l).link l = (s.link l).afterReset := by
  simp [State.resetLink]

/-! ## NOTICE_CTL (R60, R63) -/

/-- Threshold 0 is refused with nothing changed (R60). -/
theorem noticeCtlWrite_zero (s : State) {d : Word} (h : field d 7 0 = 0) : s.noticeCtlWrite d = s.ended .error none := by
  have hthreshold : d.extractLsb' 0 8 = 0#8 :=
    BitVec.eq_of_toNat_eq ((toNat_extractLsb'_eq_field d 0 8 rfl).trans h)
  simp [State.noticeCtlWrite, hthreshold, answer_eq_ended]

/-- Another threshold: the settings are replaced, and a changed linger setting clears the lingered indicator and restarts
or stops the timer (R60, R63). -/
theorem noticeCtlWrite_nonzero (s : State) {d : Word} (h : field d 7 0 ≠ 0) :
    s.noticeCtlWrite d =
      ({ s with
        noticeEnable := d.getLsbD 16, threshold := d.extractLsb' 0 8, linger := d.extractLsb' 8 8,
        lingered := if field d 15 8 = s.linger.toNat then s.lingered else false,
        lingerTimer :=
          if field d 15 8 = s.linger.toNat then s.lingerTimer
          else if s.list = [] ∨ field d 15 8 = 0 then none else some ⟨field d 15 8, 0⟩ } : State).ended .done none := by
  have hlinger : (d.extractLsb' 8 8).toNat = field d 15 8 := toNat_extractLsb'_eq_field d 8 8 rfl
  have hthreshold : d.extractLsb' 0 8 ≠ 0#8 := fun hz =>
    h ((toNat_extractLsb'_eq_field d 0 8 rfl).symm.trans (congrArg BitVec.toNat hz))
  have hkept : d.extractLsb' 8 8 = s.linger ↔ field d 15 8 = s.linger.toNat := by rw [← hlinger, BitVec.toNat_inj]
  have hoff : d.extractLsb' 8 8 = 0#8 ↔ field d 15 8 = 0 := by
    rw [← hlinger]
    exact BitVec.toNat_inj.symm
  simp only [State.noticeCtlWrite, hthreshold, if_false, hkept, answer_eq_ended]
  by_cases hk : field d 15 8 = s.linger.toNat
  · simp [hk]
  · cases hl : s.list <;> simp [hk, hoff, hlinger, State.stopLinger, State.startLinger]

/-- Settles O32, by the two outcomes of a write, the fields of the word and the two resets. -/
theorem noticeCtl : Obligations.NoticeCtl := by
  unfold Obligations.NoticeCtl
  refine ⟨fun s d hr => ⟨fun hz => ?_, fun hnz => ?_,
    s.noticeCtlWord, hostRead_word hr holdsWord_noticeCtl (by decide), noticeCtlWord_fields s⟩,
    ⟨rfl, rfl, rfl⟩, fun s l => ⟨resetLink_noticeEnable s l, resetLink_threshold s l, resetLink_linger s l⟩⟩
  · rw [exec_noticeCtlWrite, hostWrite_word d hr holdsWord_noticeCtl]
    exact congrArg _ (noticeCtlWrite_zero s hz)
  · rw [exec_noticeCtlWrite, hostWrite_word d hr holdsWord_noticeCtl]
    exact congrArg _ (noticeCtlWrite_nonzero s hnz)

/-! ## LINK_EVENTS and LINK_ENABLES (R66, R67) -/

/-- Settles O33, by what the port makes of the two words of a link, their fields and the two resets. -/
theorem linkEventAndEnableWords : Obligations.LinkEventAndEnableWords := by
  unfold Obligations.LinkEventAndEnableWords
  intro s l d hr
  refine ⟨⟨?_, ?_⟩, ⟨_, hostRead_word hr (holdsWord_linkEvents l) nofun, sixBits_fields _⟩,
    ⟨_, hostRead_word hr (holdsWord_linkEnables l) nofun, sixBits_fields _⟩, ?_, ?_⟩
  · rw [exec_linkEventsWrite, linkEventsAddr_eq, hostWrite_word d hr (holdsWord_linkEvents l)]
    rfl
  · rw [exec_linkEnablesWrite, linkEnablesAddr_eq, hostWrite_word d hr (holdsWord_linkEnables l)]
    rfl
  · rw [reset_link]
    rfl
  · rw [link_resetLink_same]
    rfl

/-! ## LIST_STATUS, the notice condition and ATTN (R59, R64, R68) -/

theorem noticeCondition_iff (s : State) :
    s.noticeCondition = true ↔
      s.noticeEnable = true ∧ (s.threshold.toNat ≤ s.list.length ∨ (s.linger ≠ 0#8 ∧ s.lingered = true)) := by
  simp [State.noticeCondition]

/-- Two words of bits have a bit in common exactly when their conjunction is not 0. -/
theorem and_ne_zero_iff {w : Nat} (x y : BitVec w) :
    x &&& y ≠ 0#w ↔ ∃ i, x.getLsbD i = true ∧ y.getLsbD i = true := by
  constructor
  · intro h
    by_contra hnone
    refine h (BitVec.eq_of_getLsbD_eq fun i _ => ?_)
    simpa using fun hx hy => hnone ⟨i, hx, hy⟩
  · rintro ⟨i, hx, hy⟩ h
    simpa [hx, hy] using congrArg (BitVec.getLsbD · i) h

theorem exists_mem_links_iff (s : State) (P : Link → Prop) : (∃ k ∈ s.links.toList, P k) ↔ ∃ l, P (s.link l) := by
  constructor
  · rintro ⟨k, hk, hP⟩
    obtain ⟨i, hi, rfl⟩ := Vector.mem_iff_getElem.mp (Vector.mem_toList_iff.mp hk)
    exact ⟨⟨i, hi⟩, hP⟩
  · rintro ⟨l, hP⟩
    exact ⟨s.link l, Vector.mem_toList_iff.mpr (Vector.getElem_mem l.isLt), hP⟩

/-- Some event of some link is latched and enabled (R68). -/
theorem eventAttention_iff (s : State) :
    s.eventAttention = true ↔
      ∃ (l : LinkNo) (i : Nat), (s.link l).events.getLsbD i = true ∧ (s.link l).enables.getLsbD i = true := by
  simp only [State.eventAttention, List.any_eq_true, bne_iff_ne, exists_mem_links_iff, and_ne_zero_iff]

theorem attn_iff (s : State) :
    s.attn = true ↔ s.rstLow = false ∧ (s.noticeCondition = true ∨
      ∃ (l : LinkNo) (i : Nat), (s.link l).events.getLsbD i = true ∧ (s.link l).enables.getLsbD i = true) := by
  simp only [State.attn, Bool.and_eq_true, Bool.or_eq_true, Bool.not_eq_true', eventAttention_iff]

/-- Settles O34, by the fields of LIST_STATUS and what the notice condition and ATTN say. -/
theorem noticesAndAttn : Obligations.NoticesAndAttn := by
  unfold Obligations.NoticesAndAttn
  refine ⟨fun s hr => ⟨⟨s.listStatusWord, hostRead_word hr holdsWord_listStatus (by decide), listStatusWord_fields s⟩,
    fun d => ?_⟩, hostRead_word rfl holdsWord_listStatus (by decide), noticeCondition_iff, attn_iff⟩
  rw [exec_registerWrite, hostWrite_word d hr holdsWord_listStatus]
  rfl

end Sys2Proof.Machine
end

section
/-! PROOFS. The poll wheel (04): which fields of a link column the arbiter leaves alone, what a capture depends on, a slot
begun by a tick or by LINK_RUN, and the commands SET_SLOT and SET_POSITION. -/

namespace Sys2Proof.Machine

/-! ## What a command word names (Table 76) -/

theorem argLink_of_namesLink {w : Word} {l : LinkNo} (h : NamesLink w l) : argLink w = some l := by
  rw [argLink_eq_linkOf, h, linkOf_val]

theorem argLink_of_gt {w : Word} (h : 3 < field w 19 16) : argLink w = none := by
  obtain ⟨l, -, hl⟩ | ⟨hnone, -⟩ := argLink_cases w
  · omega
  · exact hnone

/-- LINK_CONFIG and SET_POSITION are for links that are OFF or HALTED (R85, R96). -/
theorem idle_iff (x : LinkState) : x.idle = true ↔ x = .off ∨ x = .halted := by cases x <;> simp [LinkState.idle]

theorem idle_eq_false_iff (x : LinkState) : x.idle = false ↔ x = .running ∨ x = .stopping := by
  cases x <;> simp [LinkState.idle]

/-! ## What the arbiter leaves alone in the column of its link (R98, R99) -/

/-- Issue for the WRITE group touches the queue, the pointer, the record of the transaction and the line. -/
theorem issueWrite_frame (k : Link) :
    k.issueWrite = { k with
      queue := k.issueWrite.queue, pointer := k.issueWrite.pointer, inFlight := k.issueWrite.inFlight
      line := k.issueWrite.line } := by
  unfold Link.issueWrite
  split <;> rfl

/-- Issue for the DEMAND group touches the slot, the pointer, the record of the transaction and the line. -/
theorem issueDemand_frame (k : Link) :
    k.issueDemand = { k with
      demand := k.issueDemand.demand, pointer := k.issueDemand.pointer, inFlight := k.issueDemand.inFlight
      line := k.issueDemand.line } := by
  unfold Link.issueDemand
  split <;> rfl

/-- Issue for the POLL group touches the batch, the pointer, the record of the transaction and the line. -/
theorem issuePoll_frame (k : Link) (passes : BatchItem → Bool) :
    k.issuePoll passes = { k with
      batch := (k.issuePoll passes).batch, pointer := (k.issuePoll passes).pointer
      inFlight := (k.issuePoll passes).inFlight, line := (k.issuePoll passes).line } := by
  unfold Link.issuePoll
  split <;> rfl

/-- The slot and its setting are no part of an issue. -/
theorem issue_slot (s : State) (l : LinkNo) (g : Group) :
    ((s.issue l g).link l).slotTimer = (s.link l).slotTimer ∧
    ((s.issue l g).link l).slotSetting = (s.link l).slotSetting := by
  rw [State.issue, link_updLink_same]
  cases g with
  | write => exact issueWrite_frame (s.link l) ▸ ⟨rfl, rfl⟩
  | demand => exact issueDemand_frame (s.link l) ▸ ⟨rfl, rfl⟩
  | poll => exact issuePoll_frame (s.link l) (s.passes l []) ▸ ⟨rfl, rfl⟩

/-- The slot and its setting are no part of a pick. -/
theorem arbitrate_slot (s : State) (l : LinkNo) :
    ((s.arbitrate l).link l).slotTimer = (s.link l).slotTimer ∧
    ((s.arbitrate l).link l).slotSetting = (s.link l).slotSetting := by
  obtain ⟨-, h⟩ | ⟨-, -, -, h⟩ | ⟨g, -, -, -, -, h⟩ := arbitrate_cases s l
  · rw [h]; exact ⟨rfl, rfl⟩
  · rw [h]; exact ⟨rfl, rfl⟩
  · rw [h]; exact issue_slot s l g

@[simp] theorem arbitrate_slotTimer (s : State) (l : LinkNo) :
    ((s.arbitrate l).link l).slotTimer = (s.link l).slotTimer := (arbitrate_slot s l).1
@[simp] theorem arbitrate_slotSetting (s : State) (l : LinkNo) :
    ((s.arbitrate l).link l).slotSetting = (s.link l).slotSetting := (arbitrate_slot s l).2

/-! ## The capture (R74, R75) -/

/-- A capture depends on the station records of its link and on the table alone. -/
theorem capture_congr {s t : State} (l : LinkNo) (position : Fin 64) (hst : ∀ st, s.station l st = t.station l st)
    (ht : s.table = t.table) : s.capture l position = t.capture l position := by
  simp [State.capture, State.probeTargets, State.pollTargets, State.entryCount, hst, ht]

@[simp] theorem recapture_slotTimer (s : State) (l : LinkNo) :
    ((s.recapture l).link l).slotTimer = (s.link l).slotTimer := by simp [State.recapture]
@[simp] theorem recapture_slotSetting (s : State) (l : LinkNo) :
    ((s.recapture l).link l).slotSetting = (s.link l).slotSetting := by simp [State.recapture]
@[simp] theorem recapture_batch (s : State) (l : LinkNo) :
    ((s.recapture l).link l).batch = s.capture l (s.link l).position := by simp [State.recapture]

/-! ## The slot tick (R72, R84) -/

theorem exec_slotTick (l : LinkNo) (s : State) : exec (.slotTick l) s = .next (s.slotTick l) := rfl

/-- The column of a link after the overrun check over `n` items and the countdowns of holds and demand lifetime, before its
new position and slot (R72, R73, R131, R159). -/
def Link.countedDown (k : Link) (n : Nat) : Link := (k.overrun n).holdTick.demandTick

@[simp] theorem overrun_slotSetting (k : Link) (n : Nat) : (k.overrun n).slotSetting = k.slotSetting := by
  unfold Link.overrun
  split <;> rfl

@[simp] theorem demandTick_slotSetting (k : Link) : k.demandTick.slotSetting = k.slotSetting := by
  unfold Link.demandTick
  split
  · split <;> rfl
  all_goals rfl

@[simp] theorem countedDown_slotSetting (k : Link) (n : Nat) : (k.countedDown n).slotSetting = k.slotSetting := by
  simp [Link.countedDown, Link.holdTick]

/-- The column of a link once its owners have ticked: the next position and a full slot, with the batch still to be
captured (R72). -/
theorem link_tickOwners (s : State) (l : LinkNo) :
    (s.tickOwners l).link l =
      { (s.link l).countedDown (s.overrunItems l).length with
        position := ((s.link l).countedDown (s.overrunItems l).length).position + 1
        slotTimer := ((s.link l).countedDown (s.overrunItems l).length).fullSlot
        batch := [] } := by
  simp [State.tickOwners, State.updLink, State.link, Link.countedDown]

@[simp] theorem tickOwners_slotSetting (s : State) (l : LinkNo) :
    ((s.tickOwners l).link l).slotSetting = (s.link l).slotSetting := by
  simp [link_tickOwners]

/-- A tick begins a slot of 64 times the setting in force (R70, R84). -/
@[simp] theorem tickOwners_slotTimer (s : State) (l : LinkNo) :
    ((s.tickOwners l).link l).slotTimer = .running ⟨64 * (s.link l).slotSetting, 0⟩ := by
  simp [link_tickOwners, Link.fullSlot]

theorem slotTick_slot {s : State} {l : LinkNo} (h : (s.link l).state = .running) :
    ((s.slotTick l).link l).slotTimer = .running ⟨64 * (s.link l).slotSetting, 0⟩ ∧
    ((s.slotTick l).link l).slotSetting = (s.link l).slotSetting := by
  simp [State.slotTick, h]

/-! ## LINK_RUN from OFF or HALTED (R90) -/

theorem exec_linkRun (s : State) : exec .linkRun s = execLinkRun s := rfl

/-- A command that ends with a pick: ending the host access does not disturb what the arbiter does (R98, R165). -/
theorem onCommand_eq_commandDone_arbitrate {s t : State} {l : LinkNo} {code : Word} {run : State → State}
    {c : ResultCode} {r1 r2 r3 : Word} (hr : s.rstLow = false)
    (hrun : run { s with command := code } = (({ t with command := code } : State).result c r1 r2 r3).arbitrate l) :
    s.onCommand code run = (t.commandDone code c r1 r2 r3).arbitrate l := by
  rw [onCommand_high s code run hr, hrun, ← arbitrate_answer]
  simp [State.result, State.answer, State.commandDone, number_eq_resultWord]

/-- The state LINK_RUN makes of an idle link before the pick: a column begun afresh with its capture (R82, R90). -/
def State.ranAfresh (s : State) (l : LinkNo) : State := (s.updLink l Link.runAfresh).recapture l

theorem cmdLinkRun_idle {s : State} {l : LinkNo} (hl : NamesLink s.args[0] l)
    (hidle : (s.link l).state = .off ∨ (s.link l).state = .halted) :
    s.cmdLinkRun = ((s.ranAfresh l).finish .ok).arbitrate l := by
  rcases hidle with h | h <;> simp [State.cmdLinkRun, State.arg0, argLink_of_namesLink hl, h, State.ranAfresh]

theorem exec_linkRun_idle {s : State} {l : LinkNo} (hr : s.rstLow = false) (hl : NamesLink s.args[0] l)
    (hidle : (s.link l).state = .off ∨ (s.link l).state = .halted) :
    exec .linkRun s = .next (((s.ranAfresh l).commandDone 0x20#32 .ok 0#32 0#32 0#32).arbitrate l) := by
  rw [exec_linkRun, execLinkRun]
  exact congrArg _
    (onCommand_eq_commandDone_arbitrate hr (cmdLinkRun_idle (s := { s with command := 0x20#32 }) hl hidle))

@[simp] theorem commandDone_link (s : State) (code : Word) (c : ResultCode) (r1 r2 r3 : Word) (l : LinkNo) :
    (s.commandDone code c r1 r2 r3).link l = s.link l := rfl

@[simp] theorem ranAfresh_slotTimer (s : State) (l : LinkNo) :
    ((s.ranAfresh l).link l).slotTimer = .running ⟨64 * (s.link l).slotSetting, 0⟩ := by
  simp [State.ranAfresh, Link.runAfresh, Link.fullSlot]

/-- The batch is captured at the position the link held before LINK_RUN (R82, R85). -/
@[simp] theorem ranAfresh_batch (s : State) (l : LinkNo) :
    ((s.ranAfresh l).link l).batch = s.capture l (s.link l).position := by
  have hstation (st : StationNo) : (s.updLink l Link.runAfresh).station l st = s.station l st := by
    simp [State.station, Link.runAfresh, Link.station]
  rw [State.ranAfresh, recapture_batch, link_updLink_same]
  exact capture_congr l _ hstation rfl

/-! ## SET_SLOT (R84) -/

theorem exec_setSlot (s : State) : exec .setSlot s = execSetSlot s := rfl

theorem cmdSetSlot_refused {s : State}
    (h : 3 < field s.args[0] 19 16 ∨ s.args[1].toNat < 4 ∨ 255 < s.args[1].toNat) :
    s.cmdSetSlot = s.finish .badArgument := by
  obtain hlink | harg := h
  · simp [State.cmdSetSlot, State.arg0, argLink_of_gt hlink]
  · cases hl : argLink s.args[0] <;> simp [State.cmdSetSlot, State.arg0, State.arg1, hl, harg]

theorem cmdSetSlot_stored {s : State} {l : LinkNo} (hl : NamesLink s.args[0] l) (hmin : 4 ≤ s.args[1].toNat)
    (hmax : s.args[1].toNat ≤ 255) :
    s.cmdSetSlot = (s.updLink l (fun k => { k with slotSetting := s.args[1].toNat })).finish .ok := by
  have hlegal : ¬ (s.args[1].toNat < 4 ∨ 255 < s.args[1].toNat) := by omega
  simp [State.cmdSetSlot, State.arg0, State.arg1, argLink_of_namesLink hl, hlegal]

theorem exec_setSlot_refused {s : State} (hr : s.rstLow = false)
    (h : 3 < field s.args[0] 19 16 ∨ s.args[1].toNat < 4 ∨ 255 < s.args[1].toNat) :
    exec .setSlot s = .next (s.commandDone 0x24#32 .badArgument 0#32 0#32 0#32) := by
  rw [exec_setSlot, execSetSlot]
  exact congrArg _ (onCommand_eq_commandDone hr (cmdSetSlot_refused (s := { s with command := 0x24#32 }) h))

theorem exec_setSlot_stored {s : State} {l : LinkNo} (hr : s.rstLow = false) (hl : NamesLink s.args[0] l)
    (hmin : 4 ≤ s.args[1].toNat) (hmax : s.args[1].toNat ≤ 255) :
    exec .setSlot s =
      .next ((s.updLink l (fun k => { k with slotSetting := s.args[1].toNat })).commandDone 0x24#32 .ok 0#32 0#32
        0#32) := by
  rw [exec_setSlot, execSetSlot]
  exact congrArg _ (onCommand_eq_commandDone hr (cmdSetSlot_stored (s := { s with command := 0x24#32 }) hl hmin hmax))

@[simp] theorem resetLink_slotSetting (s : State) (l : LinkNo) :
    ((s.resetLink l).link l).slotSetting = (s.link l).slotSetting := by
  simp [State.resetLink, Link.afterReset]

/-- Settles O25, by the two outcomes of the command and the three places a slot setting is read, set or kept: the slot
tick, LINK_RUN and the resets. -/
theorem setSlot : Obligations.SetSlot := by
  unfold Obligations.SetSlot
  refine ⟨fun s l hr hl => ⟨fun h => exec_setSlot_refused hr (.inr h), exec_setSlot_stored hr hl⟩,
    fun s hr h => exec_setSlot_refused hr (.inl h), fun s l h => ⟨_, exec_slotTick l s, slotTick_slot h⟩,
    fun s l hr hl hidle => ⟨_, exec_linkRun_idle hr hl hidle, ?_⟩, fun l => ?_, resetLink_slotSetting⟩
  · simp
  · rw [reset_link]; rfl

/-! ## SET_POSITION (R85) -/

theorem exec_setPosition (s : State) : exec .setPosition s = execSetPosition s := rfl

theorem cmdSetPosition_refused {s : State} (h : 3 < field s.args[0] 19 16 ∨ 63 < s.args[1].toNat) :
    s.cmdSetPosition = s.finish .badArgument := by
  obtain hlink | harg := h
  · simp [State.cmdSetPosition, State.arg0, argLink_of_gt hlink]
  · have hout : ¬ s.args[1].toNat < 64 := by omega
    cases hl : argLink s.args[0] <;> simp [State.cmdSetPosition, State.arg0, State.arg1, hl, hout]

theorem cmdSetPosition_busy {s : State} {l : LinkNo} (hl : NamesLink s.args[0] l) (harg : s.args[1].toNat ≤ 63)
    (hbusy : (s.link l).state = .running ∨ (s.link l).state = .stopping) :
    s.cmdSetPosition = s.finish .linkBusy := by
  have hin : s.args[1].toNat < 64 := by omega
  simp [State.cmdSetPosition, State.arg0, State.arg1, argLink_of_namesLink hl, hin, (idle_eq_false_iff _).mpr hbusy]

theorem cmdSetPosition_idle {s : State} {l : LinkNo} {p : Fin 64} (hl : NamesLink s.args[0] l)
    (hp : s.args[1].toNat = p.val) (hidle : (s.link l).state = .off ∨ (s.link l).state = .halted) :
    s.cmdSetPosition = (s.updLink l (fun k => { k with position := p })).finish .ok := by
  simp [State.cmdSetPosition, State.arg0, State.arg1, argLink_of_namesLink hl, hp, (idle_iff _).mpr hidle]

theorem exec_setPosition_refused {s : State} (hr : s.rstLow = false)
    (h : 3 < field s.args[0] 19 16 ∨ 63 < s.args[1].toNat) :
    exec .setPosition s = .next (s.commandDone 0x25#32 .badArgument 0#32 0#32 0#32) := by
  rw [exec_setPosition, execSetPosition]
  exact congrArg _ (onCommand_eq_commandDone hr (cmdSetPosition_refused (s := { s with command := 0x25#32 }) h))

theorem exec_setPosition_busy {s : State} {l : LinkNo} (hr : s.rstLow = false) (hl : NamesLink s.args[0] l)
    (harg : s.args[1].toNat ≤ 63) (hbusy : (s.link l).state = .running ∨ (s.link l).state = .stopping) :
    exec .setPosition s = .next (s.commandDone 0x25#32 .linkBusy 0#32 0#32 0#32) := by
  rw [exec_setPosition, execSetPosition]
  exact congrArg _
    (onCommand_eq_commandDone hr (cmdSetPosition_busy (s := { s with command := 0x25#32 }) hl harg hbusy))

theorem exec_setPosition_idle {s : State} {l : LinkNo} {p : Fin 64} (hr : s.rstLow = false)
    (hl : NamesLink s.args[0] l) (hp : s.args[1].toNat = p.val)
    (hidle : (s.link l).state = .off ∨ (s.link l).state = .halted) :
    exec .setPosition s =
      .next ((s.updLink l (fun k => { k with position := p })).commandDone 0x25#32 .ok 0#32 0#32 0#32) := by
  rw [exec_setPosition, execSetPosition]
  exact congrArg _
    (onCommand_eq_commandDone hr (cmdSetPosition_idle (s := { s with command := 0x25#32 }) hl hp hidle))

/-- Settles O26, by the three outcomes of the command and the state LINK_RUN hands to the arbiter. -/
theorem setPosition : Obligations.SetPosition := by
  unfold Obligations.SetPosition
  exact ⟨fun s hr h => exec_setPosition_refused hr (.inl h),
    fun s l hr hl => ⟨fun h => exec_setPosition_refused hr (.inr h), exec_setPosition_busy hr hl,
      fun p hp hidle => exec_setPosition_idle hr hl hp hidle⟩,
    fun s l hr hl hidle => ⟨_, _, exec_linkRun_idle hr hl hidle, rfl, ranAfresh_batch s l⟩⟩

end Sys2Proof.Machine
end

section
/-! PROOFS. The link engine (05): LINK_RUN in every link state, and the words LINK_STATUS and WRITE_FAULT of a link. -/

namespace Sys2Proof.Machine

/-! ## LINK_RUN (R90) -/

/-- A link begun afresh, as one update of its column: the capture sees the records and the table LINK_RUN found (R82,
R89, R90). -/
theorem ranAfresh_eq_updLink (s : State) (l : LinkNo) :
    s.ranAfresh l = s.updLink l (fun k => { k.runAfresh with batch := s.capture l k.position }) := by
  have hbatch : (s.updLink l Link.runAfresh).capture l ((s.updLink l Link.runAfresh).link l).position =
      s.capture l (s.link l).position :=
    (recapture_batch _ l).symm.trans (ranAfresh_batch s l)
  rw [State.ranAfresh, State.recapture, hbatch, updLink_updLink]
  exact updLink_congr s l rfl

theorem cmdLinkRun_stopping {s : State} {l : LinkNo} {t : Timer} (hl : NamesLink s.args[0] l)
    (hstate : (s.link l).state = .stopping) (htimer : (s.link l).slotTimer = .paused t) :
    s.cmdLinkRun = (s.updLink l (fun k => { k with state := .running, slotTimer := .running t })).finish .ok := by
  have hresume : s.updLink l (fun k => { k with state := .running, slotTimer := k.slotTimer.resume }) =
      s.updLink l (fun k => { k with state := .running, slotTimer := .running t }) :=
    updLink_congr s l (by simp [htimer, SlotTimer.resume])
  simp [State.cmdLinkRun, State.arg0, argLink_of_namesLink hl, hstate, hresume]

theorem cmdLinkRun_running {s : State} {l : LinkNo} (hl : NamesLink s.args[0] l)
    (hstate : (s.link l).state = .running) : s.cmdLinkRun = s.finish .ok := by
  simp [State.cmdLinkRun, State.arg0, argLink_of_namesLink hl, hstate]

theorem exec_linkRun_stopping {s : State} {l : LinkNo} {t : Timer} (hr : s.rstLow = false)
    (hl : NamesLink s.args[0] l) (hstate : (s.link l).state = .stopping) (htimer : (s.link l).slotTimer = .paused t) :
    exec .linkRun s =
      .next ((s.updLink l (fun k => { k with state := .running, slotTimer := .running t })).commandDone 0x20#32 .ok 0#32
        0#32 0#32) := by
  rw [exec_linkRun, execLinkRun]
  exact congrArg _
    (onCommand_eq_commandDone hr (cmdLinkRun_stopping (s := { s with command := 0x20#32 }) hl hstate htimer))

theorem exec_linkRun_running {s : State} {l : LinkNo} (hr : s.rstLow = false) (hl : NamesLink s.args[0] l)
    (hstate : (s.link l).state = .running) :
    exec .linkRun s = .next (s.commandDone 0x20#32 .ok 0#32 0#32 0#32) := by
  rw [exec_linkRun, execLinkRun]
  exact congrArg _ (onCommand_eq_commandDone hr (cmdLinkRun_running (s := { s with command := 0x20#32 }) hl hstate))

/-- Settles O21, by the link state the command finds: an idle link begins afresh, a STOPPING one resumes, a RUNNING one
is left alone. -/
theorem linkRun : Obligations.LinkRun := by
  unfold Obligations.LinkRun
  intro s l hr hl
  refine ⟨fun hidle => ?_, fun t => exec_linkRun_stopping hr hl, exec_linkRun_running hr hl⟩
  rw [exec_linkRun_idle hr hl hidle, ranAfresh_eq_updLink]
  rfl

/-! ## Where the words of a link stand (Table 72) -/

theorem holdsWord_linkStatus : ∀ l : LinkNo, HoldsWord (BitVec.ofNat 20 (0x80100 + l.val * 0x20)) (.linkStatus l) := by
  decide

theorem holdsWord_faultFirst : ∀ l : LinkNo, HoldsWord (BitVec.ofNat 20 (0x8010C + l.val * 0x20)) (.faultFirst l) := by
  decide

theorem holdsWord_faultSecond :
    ∀ l : LinkNo, HoldsWord (BitVec.ofNat 20 (0x80110 + l.val * 0x20)) (.faultSecond l) := by
  decide

/-- A write of a word that refuses every value ends ERROR and changes nothing (R162, Table 72). -/
theorem exec_registerWrite_readOnly {s : State} {a : HostAddr} {w : ControlWord} (d : Word) (hr : s.rstLow = false)
    (h : HoldsWord a w) (hw : s.writeControl w d = s.ended .error none) :
    exec (.registerWrite a 0xF#4 d) s = .next (s.ended .error none) := by
  rw [exec_registerWrite, hostWrite_word d hr h, hw]

/-! ## The codes in the words of a link (Table 80) -/

theorem toNat_linkState_code (x : LinkState) :
    x.code.toNat = (match x with | .off => 0 | .running => 1 | .stopping => 2 | .halted => 3) := by
  cases x <;> rfl

theorem toNat_haltReason_code (x : HaltReason) :
    x.code.toNat = (match x with | .none => 0 | .hostStop => 1 | .lineFault => 2) := by
  cases x <;> rfl

theorem toNat_demandSlot_code (x : DemandSlot) :
    x.code.toNat = (match x with | .empty => 0 | .waiting _ => 1 | .inFlight _ => 2 | .ready _ _ _ => 3) := by
  cases x <;> rfl

theorem toNat_faultOutcome_code (x : FaultOutcome) :
    x.code.toNat = (match x with | .none => 0 | .rejected => 1 | .blocked => 2 | .unknown => 3) := by
  cases x <;> rfl

theorem toNat_dest_number (x : Dest) :
    x.number.toNat = (match x with | .station st => st.val | .broadcast => 63) := by
  cases x with
  | station st => exact Nat.mod_eq_of_lt (by omega)
  | broadcast => rfl

/-! ## The fields of the words of a link (R105, R149, Table 80) -/

theorem toNat_statusWord (k : Link) :
    k.statusWord.toNat =
      k.blockedRun % 8 * 2 ^ 28 + k.dropped % 1024 * 2 ^ 18 + k.demand.code.toNat * 2 ^ 16 +
        k.queue.length % 32 * 2 ^ 10 + k.position.val * 2 ^ 4 + k.haltReason.code.toNat * 2 ^ 2 +
        k.state.code.toNat := by
  change (0#1 ++ BitVec.ofNat 3 k.blockedRun ++ BitVec.ofNat 10 k.dropped ++ k.demand.code ++ 0#1 ++
    BitVec.ofNat 5 k.queue.length ++ (BitVec.ofFin k.position : BitVec 6) ++ k.haltReason.code ++ k.state.code).toNat = _
  simp only [toNat_append_eq_add, BitVec.toNat_ofNat, BitVec.toNat_ofFin]
  omega

theorem toNat_firstWord (f : WriteFault) :
    f.firstWord.toNat = f.outcome.code.toNat * 2 ^ 16 + f.dest.number.toNat * 2 ^ 8 + f.register.toNat := by
  change (0#14 ++ f.outcome.code ++ 0#2 ++ f.dest.number ++ f.register).toNat = _
  simp only [toNat_append_eq_add, BitVec.toNat_ofNat]
  omega

theorem toNat_secondWord (f : WriteFault) : f.secondWord.toNat = f.data.toNat := by
  change (0#16 ++ f.data).toNat = _
  simp only [toNat_append_eq_add, BitVec.toNat_ofNat]
  omega

/-- LINK_STATUS shows each item of the link (R105, Table 80). -/
theorem statusWord_fields (k : Link) :
    field k.statusWord 1 0 = k.state.code.toNat ∧ field k.statusWord 3 2 = k.haltReason.code.toNat ∧
      field k.statusWord 9 4 = k.position.val ∧ field k.statusWord 14 10 = k.queue.length % 32 ∧
      field k.statusWord 15 15 = 0 ∧ field k.statusWord 17 16 = k.demand.code.toNat ∧
      field k.statusWord 27 18 = k.dropped % 1024 ∧ field k.statusWord 30 28 = k.blockedRun % 8 ∧
      field k.statusWord 31 31 = 0 := by
  have hstate := k.state.code.isLt
  have hreason := k.haltReason.code.isLt
  have hdemand := k.demand.code.isLt
  simp only [field, toNat_statusWord]
  omega

/-- The first WRITE_FAULT word shows where the write went and how it failed (R149, Table 80). -/
theorem firstWord_fields (f : WriteFault) :
    field f.firstWord 7 0 = f.register.toNat ∧ field f.firstWord 13 8 = f.dest.number.toNat ∧
      field f.firstWord 15 14 = 0 ∧ field f.firstWord 17 16 = f.outcome.code.toNat ∧ field f.firstWord 31 18 = 0 := by
  have hregister := f.register.isLt
  have hdest := f.dest.number.isLt
  have houtcome := f.outcome.code.isLt
  simp only [field, toNat_firstWord]
  omega

/-- The second WRITE_FAULT word shows the data of the write (R149, Table 80). -/
theorem secondWord_fields (f : WriteFault) :
    field f.secondWord 15 0 = f.data.toNat ∧ field f.secondWord 31 16 = 0 := by
  have hdata := f.data.isLt
  simp only [field, toNat_secondWord]
  omega

/-- The status of a link after pin reset: OFF, and every item clear (R106). -/
theorem readControl_reset_linkStatus (l : LinkNo) : State.reset.readControl (.linkStatus l) = 0#32 := by
  change (State.reset.link l).statusWord = 0#32
  rw [reset_link]
  rfl

/-- Settles O27, by what the port reads and refuses at the three addresses, the fields of the words and the two
resets. -/
theorem linkStatusAndFaultWords : Obligations.LinkStatusAndFaultWords := by
  unfold Obligations.LinkStatusAndFaultWords
  intro s l hr
  refine ⟨⟨_, hostRead_word hr (holdsWord_linkStatus l) nofun, ?_⟩,
    ⟨_, hostRead_word hr (holdsWord_faultFirst l) nofun, ?_⟩,
    ⟨_, hostRead_word hr (holdsWord_faultSecond l) nofun, secondWord_fields (s.link l).fault⟩, ?_, ?_, ?_⟩
  · obtain ⟨hstate, hreason, hposition, hqueue, hgap, hdemand, hrest⟩ := statusWord_fields (s.link l)
    exact ⟨hstate.trans (toNat_linkState_code _), hreason.trans (toNat_haltReason_code _), hposition, hqueue, hgap,
      hdemand.trans (toNat_demandSlot_code _), hrest⟩
  · obtain ⟨hregister, hdest, hgap, houtcome, htop⟩ := firstWord_fields (s.link l).fault
    exact ⟨hregister, hdest.trans (toNat_dest_number _), hgap, houtcome.trans (toNat_faultOutcome_code _), htop⟩
  · rintro offset d (rfl | rfl | rfl)
    · exact exec_registerWrite_readOnly d hr (holdsWord_linkStatus l) rfl
    · rw [Nat.add_right_comm]
      exact exec_registerWrite_readOnly d hr (holdsWord_faultFirst l) rfl
    · rw [Nat.add_right_comm]
      exact exec_registerWrite_readOnly d hr (holdsWord_faultSecond l) rfl
  · rw [hostRead_word rfl (holdsWord_linkStatus l) nofun, readControl_reset_linkStatus]
  · rw [link_resetLink_same]
    exact ⟨rfl, rfl, rfl, rfl, rfl, rfl, rfl⟩

end Sys2Proof.Machine
end

section
/-! PROOFS. The stations (07): where the station view stands, and the fields of its words. -/

namespace Sys2Proof.Machine

/-! ## Where the station view stands (R135, Table 72) -/

theorem holdsWord_stationView : ∀ (l : LinkNo) (n : Fin 64),
    HoldsWord (BitVec.ofNat 20 (0x80400 + l.val * 0x100 + n.val * 4)) (.stationView l (BitVec.ofFin n)) := by
  decide

/-! ## What a station record shows (R135, Table 79) -/

/-- The standing code of a sound record. Code 2 of Table 79, a station's hold on a record never seen, is not among them:
in a sound record the station of such a hold has been seen (R126). -/
theorem StationRecord.Sound.toNat_standingCode {r : StationRecord} (h : r.Sound) :
    r.standingCode.toNat =
      (match r.standing with
        | .unseen => 0
        | .present => 1
        | .held ⟨.station, _⟩ => 3
        | .held ⟨.host, _⟩ => 4 + r.seen.toNat
        | .missing => 6 + r.seen.toNat) := by
  obtain ⟨standing, misses, seen⟩ := r
  obtain ⟨-, hstanding⟩ := h
  match standing with
  | .unseen | .present => rfl
  | .held ⟨.station, some _⟩ =>
    obtain ⟨rfl, -⟩ : seen = true ∧ _ := hstanding
    rfl
  | .held ⟨.station, none⟩ => exact hstanding.elim
  | .held ⟨.host, _⟩ | .missing => cases seen <;> rfl

theorem StationRecord.Sound.misses_le {r : StationRecord} (h : r.Sound) : r.misses ≤ 15 := by
  obtain ⟨hmisses, -⟩ := h
  exact hmisses

/-- The hold remaining fits its sixteen bits. -/
theorem StationRecord.Sound.holdShown_le {r : StationRecord} (h : r.Sound) : r.holdShown ≤ 65535 := by
  obtain ⟨standing, misses, seen⟩ := r
  obtain ⟨-, hstanding⟩ := h
  match standing with
  | .unseen | .present | .missing | .held ⟨_, none⟩ => exact Nat.zero_le _
  | .held ⟨.station, some _⟩ =>
    obtain ⟨-, -, hmax⟩ := hstanding
    exact hmax
  | .held ⟨.host, some _⟩ =>
    obtain ⟨-, hmax⟩ := hstanding
    exact hmax

/-! ## The fields of the words of the station view (R135, Table 79) -/

/-- Station 63 has no record, and its word reads 0 (R135). -/
theorem readControl_stationView_broadcast (s : State) (l : LinkNo) :
    s.readControl (.stationView l (BitVec.ofFin 63)) = 0#32 := rfl

theorem toNat_stationViewWord (s : State) (l : LinkNo) {n : BitVec 6} {st : StationNo}
    (hn : stationOf n.toNat = some st) :
    (s.stationViewWord l n).toNat =
      (s.station l st).standingCode.toNat * 2 ^ 29 + (s.station l st).misses % 16 * 2 ^ 25 +
        s.entryCount l st % 512 * 2 ^ 16 + (s.station l st).holdShown % 65536 := by
  simp only [State.stationViewWord, hn, toNat_append_eq_add, BitVec.toNat_ofNat]
  omega

/-- The word of a station shows each item of its record, each number as far as its bits go (R135, Table 79). -/
theorem stationViewWord_fields (s : State) (l : LinkNo) {n : BitVec 6} {st : StationNo}
    (hn : stationOf n.toNat = some st) :
    field (s.stationViewWord l n) 15 0 = (s.station l st).holdShown % 65536 ∧
      field (s.stationViewWord l n) 24 16 = s.entryCount l st % 512 ∧
      field (s.stationViewWord l n) 28 25 = (s.station l st).misses % 16 ∧
      field (s.stationViewWord l n) 31 29 = (s.station l st).standingCode.toNat := by
  have hcode := (s.station l st).standingCode.isLt
  simp only [field, toNat_stationViewWord s l hn]
  omega

/-- Settles O20, by where the words of the view stand and the fields a sound record shows there. -/
theorem stationViewWords : Obligations.StationViewWords := by
  unfold Obligations.StationViewWords
  intro s l hr
  refine ⟨?_, fun n d => exec_registerWrite_readOnly d hr (holdsWord_stationView l n) rfl, fun st hsound hcount =>
    ⟨_, hostRead_word hr (holdsWord_stationView l st.castSucc) nofun, ?_⟩⟩
  · rw [← readControl_stationView_broadcast s l]
    exact hostRead_word hr (holdsWord_stationView l 63) nofun
  · obtain ⟨hhold, hentries, hmisses, hcode⟩ :=
      stationViewWord_fields s l (n := BitVec.ofFin st.castSucc) (stationOf_val st)
    have hentriesFit : s.entryCount l st < 512 := by omega
    exact ⟨hentries.trans (Nat.mod_eq_of_lt hentriesFit),
      hmisses.trans (Nat.mod_eq_of_lt (Nat.lt_succ_of_le hsound.misses_le)),
      hhold.trans (Nat.mod_eq_of_lt (Nat.lt_succ_of_le hsound.holdShown_le)),
      hcode.trans hsound.toNat_standingCode⟩

end Sys2Proof.Machine
end

section
/-! PROOFS. The address map (10): the regions by number, the split of a window address, the addresses of Table 72 in both
directions, and the accesses to the control block and to station 63 that end ERROR. -/

namespace Sys2Proof.Machine

/-! ## The regions (R163) -/

theorem getLsbD_eq_div (a : HostAddr) (i : Nat) : a.getLsbD i = decide (a.toNat / 2 ^ i % 2 = 1) := by
  rw [BitVec.getLsbD, Nat.testBit_eq_decide_div_mod_eq]

/-- The regions by the numbers at which they begin. -/
theorem regionOf_eq (a : HostAddr) :
    regionOf a = if 0x80000 ≤ a.toNat then .control else if 0x40000 ≤ a.toNat then .direct else .cached := by
  have ha := a.isLt
  have hcontrol : a.toNat / 2 ^ 19 % 2 = 1 ↔ 0x80000 ≤ a.toNat := by omega
  simp only [regionOf, getLsbD_eq_div, decide_eq_true_eq, hcontrol]
  split
  · rfl
  · have hdirect : a.toNat / 2 ^ 18 % 2 = 1 ↔ 0x40000 ≤ a.toNat := by omega
    simp only [hdirect]

theorem regionOf_eq_control_iff (a : HostAddr) : regionOf a = .control ↔ 0x80000 ≤ a.toNat := by
  rw [regionOf_eq]
  split_ifs with hcontrol <;> simp [hcontrol]

/-! ## Window addresses (R163) -/

theorem toNat_extractLsb'_addr (a : HostAddr) (lo len : Nat) :
    (a.extractLsb' lo len).toNat = a.toNat / 2 ^ lo % 2 ^ len := by
  rw [BitVec.extractLsb'_toNat, Nat.shiftRight_eq_div_pow]

theorem extractLsb'_addr_eq_iff (a : HostAddr) (lo len n : Nat) :
    a.extractLsb' lo len = BitVec.ofNat len n ↔ a.toNat / 2 ^ lo % 2 ^ len = n % 2 ^ len := by
  rw [← BitVec.toNat_inj, toNat_extractLsb'_addr, BitVec.toNat_ofNat]

/-- The sum that makes up a window address does not leave its 20 bits. -/
theorem toNat_windowAddr {base : Nat} (hbase : base = 0 ∨ base = 0x40000) (l : LinkNo) (n : Fin 64) (reg : RegNo) :
    (windowAddr base l n.val reg).toNat = base + l.val * 0x10000 + n.val * 0x400 + reg.toNat * 4 := by
  have hreg := reg.isLt
  rw [windowAddr, BitVec.toNat_ofNat]
  omega

theorem windowAddr_lt {base : Nat} (hbase : base = 0 ∨ base = 0x40000) (l : LinkNo) (n : Fin 64) (reg : RegNo) :
    (windowAddr base l n.val reg).toNat < 0x80000 := by
  have hreg := reg.isLt
  rw [toNat_windowAddr hbase]
  omega

theorem regionOf_windowAddr_cached (l : LinkNo) (n : Fin 64) (reg : RegNo) :
    regionOf (windowAddr 0 l n.val reg) = .cached := by
  have hreg := reg.isLt
  rw [regionOf_eq, toNat_windowAddr (.inl rfl), if_neg (by omega), if_neg (by omega)]

theorem regionOf_windowAddr_direct (l : LinkNo) (n : Fin 64) (reg : RegNo) :
    regionOf (windowAddr 0x40000 l n.val reg) = .direct := by
  have hreg := reg.isLt
  rw [regionOf_eq, toNat_windowAddr (.inr rfl), if_neg (by omega), if_pos (by omega)]

theorem windowLink_windowAddr {base : Nat} (hbase : base = 0 ∨ base = 0x40000) (l : LinkNo) (n : Fin 64)
    (reg : RegNo) : windowLink (windowAddr base l n.val reg) = l := by
  apply Fin.ext
  have hreg := reg.isLt
  change ((windowAddr base l n.val reg).extractLsb' 16 2).toNat = l.val
  rw [toNat_extractLsb'_addr, toNat_windowAddr hbase]
  omega

theorem windowDest_windowAddr {base : Nat} (hbase : base = 0 ∨ base = 0x40000) (l : LinkNo) (n : Fin 64)
    (reg : RegNo) : windowDest (windowAddr base l n.val reg) = destOf (BitVec.ofNat 6 n.val) := by
  have hreg := reg.isLt
  refine congrArg destOf (BitVec.eq_of_toNat_eq ?_)
  rw [toNat_extractLsb'_addr, toNat_windowAddr hbase, BitVec.toNat_ofNat]
  omega

theorem windowRegister_windowAddr {base : Nat} (hbase : base = 0 ∨ base = 0x40000) (l : LinkNo) (n : Fin 64)
    (reg : RegNo) : windowRegister (windowAddr base l n.val reg) = reg := by
  have hreg := reg.isLt
  refine BitVec.eq_of_toNat_eq ?_
  rw [windowRegister, toNat_extractLsb'_addr, toNat_windowAddr hbase]
  omega

/-- An aligned address below the control block is put together of the base of its window and its three fields. -/
theorem eq_windowAddr_of_lt {a : HostAddr} (hlt : a.toNat < 0x80000) (haligned : a.toNat % 4 = 0) :
    a = windowAddr (a.toNat / 0x40000 * 0x40000) (windowLink a) (a.extractLsb' 10 6).toFin.val (windowRegister a) := by
  have hlink : (windowLink a).val = a.toNat / 2 ^ 16 % 2 ^ 2 := toNat_extractLsb'_addr a 16 2
  have hstation : (a.extractLsb' 10 6).toFin.val = a.toNat / 2 ^ 10 % 2 ^ 6 := toNat_extractLsb'_addr a 10 6
  have hreg : (windowRegister a).toNat = a.toNat / 2 ^ 2 % 2 ^ 8 := toNat_extractLsb'_addr a 2 8
  refine BitVec.eq_of_toNat_eq ?_
  rw [toNat_windowAddr (by omega), hlink, hstation, hreg]
  omega

theorem destOf_station (st : StationNo) : destOf (BitVec.ofNat 6 st.val) = .station st := by
  have hst : (BitVec.ofNat 6 st.val).toNat = st.val := Nat.mod_eq_of_lt (by omega)
  simp [destOf, hst]

theorem destOf_broadcast : destOf 63#6 = .broadcast := rfl

/-! ## The words of the control block (Table 72) -/

theorem holdsWord_ident : HoldsWord 0x80000#20 .ident := by decide

theorem holdsWord_command : HoldsWord 0x80004#20 .command := by decide

theorem holdsWord_take : HoldsWord 0x80030#20 .take := by decide

theorem holdsWord_arg : ∀ n : Fin 4, HoldsWord (BitVec.ofNat 20 (0x80010 + n.val * 4)) (.arg n) := by decide

theorem holdsWord_result : ∀ n : Fin 4, HoldsWord (BitVec.ofNat 20 (0x80020 + n.val * 4)) (.result n) := by decide

theorem holdsWord_taken : ∀ n : Fin 3, HoldsWord (BitVec.ofNat 20 (0x80034 + n.val * 4)) (.taken n) := by decide

/-- Each word of Table 72 stands at the address the table gives it. -/
theorem holdsWord_address (w : ControlWord) : HoldsWord (BitVec.ofNat 20 w.address) w := by
  cases w with
  | ident => exact holdsWord_ident
  | command => exact holdsWord_command
  | arg n => exact holdsWord_arg n
  | result n => exact holdsWord_result n
  | take => exact holdsWord_take
  | taken n => exact holdsWord_taken n
  | listStatus => exact holdsWord_listStatus
  | noticeCtl => exact holdsWord_noticeCtl
  | linkStatus l => exact holdsWord_linkStatus l
  | linkEvents l => exact holdsWord_linkEvents l
  | linkEnables l => exact holdsWord_linkEnables l
  | faultFirst l => exact holdsWord_faultFirst l
  | faultSecond l => exact holdsWord_faultSecond l
  | stationView l n => exact holdsWord_stationView l n.toFin

/-- One row of the decoding: where a row gives its word the right address, and the rows below it give theirs, so does the
decoding from this row on. -/
theorem address_of_row {a : HostAddr} {c : Prop} [Decidable c] {x w : ControlWord} {below : Option ControlWord}
    (h : (if c then some x else below) = some w) (hrow : c → a.toNat = x.address)
    (hbelow : below = some w → a.toNat = w.address) : a.toNat = w.address := by
  obtain ⟨hc, hx⟩ | ⟨-, h⟩ := ite_eq_iff.mp h
  · exact Option.some.inj hx ▸ hrow hc
  · exact hbelow h

/-- A word decoded from the block of a link has its address in Table 72. -/
theorem address_of_linkWordAt {a : HostAddr} {w : ControlWord} (hblock : a.extractLsb' 7 13 = 0x1002#13)
    (h : linkWordAt (a.extractLsb' 5 2).toFin (a.extractLsb' 0 5) = some w) : a.toNat = w.address := by
  have hlink : (a.extractLsb' 5 2).toFin.val = a.toNat / 2 ^ 5 % 2 ^ 2 := toNat_extractLsb'_addr a 5 2
  rw [extractLsb'_addr_eq_iff] at hblock
  simp only [linkWordAt, extractLsb'_addr_eq_iff] at h
  refine address_of_row h (fun hoffset => ?_) fun h => address_of_row h (fun hoffset => ?_) fun h =>
    address_of_row h (fun hoffset => ?_) fun h => address_of_row h (fun hoffset => ?_) fun h =>
    address_of_row h (fun hoffset => ?_) nofun
  all_goals
    rw [ControlWord.address, hlink]
    omega

/-- A word decoded from an aligned address has that address in Table 72. -/
theorem address_of_controlWordAt {a : HostAddr} {w : ControlWord} (haligned : a.toNat % 4 = 0)
    (h : controlWordAt a = some w) : a.toNat = w.address := by
  have hindex : (a.extractLsb' 2 2).toFin.val = a.toNat / 2 ^ 2 % 2 ^ 2 := toNat_extractLsb'_addr a 2 2
  have hlink : (a.extractLsb' 8 2).toFin.val = a.toNat / 2 ^ 8 % 2 ^ 2 := toNat_extractLsb'_addr a 8 2
  have hstation : (a.extractLsb' 2 6).toNat = a.toNat / 2 ^ 2 % 2 ^ 6 := toNat_extractLsb'_addr a 2 6
  unfold controlWordAt at h
  refine address_of_row h (fun ha => ha ▸ rfl) fun h => ?ident
  refine address_of_row h (fun ha => ha ▸ rfl) fun h => ?command
  refine address_of_row h (fun ha => ha ▸ rfl) fun h => ?take
  refine address_of_row h (fun ha => ha ▸ rfl) fun h => ?listStatus
  refine address_of_row h (fun ha => ha ▸ rfl) fun h => ?noticeCtl
  refine address_of_row h (fun hbase => ?_) fun h => ?arg
  · rw [extractLsb'_addr_eq_iff] at hbase
    rw [ControlWord.address, hindex]
    omega
  refine address_of_row h (fun hbase => ?_) fun h => ?result
  · rw [extractLsb'_addr_eq_iff] at hbase
    rw [ControlWord.address, hindex]
    omega
  refine address_of_row h (fun ha => ha ▸ rfl) fun h => ?taken0
  refine address_of_row h (fun ha => ha ▸ rfl) fun h => ?taken1
  refine address_of_row h (fun ha => ha ▸ rfl) fun h => ?taken2
  obtain ⟨hblock, h⟩ | ⟨-, h⟩ := ite_eq_iff.mp h
  · exact address_of_linkWordAt hblock h
  refine address_of_row h (fun hbase => ?_) nofun
  rw [extractLsb'_addr_eq_iff] at hbase
  rw [ControlWord.address, hlink, hstation]
  omega

/-- At an aligned address stands the word that Table 72 gives it, and no other. -/
theorem controlWordAt_eq_some_iff {a : HostAddr} (haligned : a.toNat % 4 = 0) (w : ControlWord) :
    controlWordAt a = some w ↔ a.toNat = w.address := by
  refine ⟨address_of_controlWordAt haligned, fun h => ?_⟩
  obtain ⟨-, -, hword⟩ := holdsWord_address w
  rwa [← h, BitVec.ofNat_toNat, BitVec.setWidth_eq] at hword

/-! ## Accesses that end ERROR (R154, R162, R163) -/

theorem malformedAccess_eq_false_iff (a : HostAddr) : malformedAccess a 0xF#4 = false ↔ a.toNat % 4 = 0 := by
  simp only [malformedAccess, bne_self_eq_false, Bool.false_or, bne_eq_false_iff_eq]
  simpa using extractLsb'_addr_eq_iff a 0 2 0

theorem writeControl_readOnly (s : State) {w : ControlWord} (d : Word) (h : w.writable = false) :
    s.writeControl w d = s.ended .error none := by
  cases w with
  | command | arg _ | noticeCtl | linkEvents _ | linkEnables _ => cases h
  | _ => rfl

/-- A write to the control block at an address of no word, or of a read-only one, ends ERROR and changes nothing. -/
theorem hostWrite_notWritable (s : State) {a : HostAddr} (d : Word) (ha : 0x80000 ≤ a.toNat)
    (h : ∀ w, controlWordAt a = some w → w.writable = false) : s.hostWrite a 0xF#4 d = s.ended .error none := by
  cases hform : s.rstLow || malformedAccess a 0xF#4 with
  | true => exact hostWrite_refused s a 0xF#4 d hform
  | false =>
    obtain ⟨hr, hm⟩ := Bool.or_eq_false_iff.mp hform
    have hregion := (regionOf_eq_control_iff a).mpr ha
    cases hword : controlWordAt a with
    | some w => rw [hostWrite_control s a d w hr hm hregion hword, writeControl_readOnly s d (h w hword)]
    | none =>
      simp only [State.hostWrite, hform, hregion, hword]
      rfl

/-- A read of the control block at an address of no word ends ERROR and changes nothing. -/
theorem hostRead_unnamed (s : State) {a : HostAddr} (ha : 0x80000 ≤ a.toNat)
    (h : ∀ w : ControlWord, w.address ≠ a.toNat) : s.hostRead a 0xF#4 = s.ended .error none := by
  cases hform : s.rstLow || malformedAccess a 0xF#4 with
  | true => exact hostRead_refused s a 0xF#4 hform
  | false =>
    obtain ⟨-, hm⟩ := Bool.or_eq_false_iff.mp hform
    have haligned := (malformedAccess_eq_false_iff a).mp hm
    have hword : controlWordAt a = none := Option.eq_none_iff_forall_ne_some.mpr fun w hw =>
      h w ((controlWordAt_eq_some_iff haligned w).mp hw).symm
    simp only [State.hostRead, hform, (regionOf_eq_control_iff a).mpr ha, hword]
    rfl

/-- A window read with the broadcast number ends ERROR, whichever the window (R154, R163). -/
theorem hostRead_broadcast (s : State) {a : HostAddr} (ha : a.toNat < 0x80000) (hdest : windowDest a = .broadcast) :
    s.hostRead a 0xF#4 = s.ended .error none := by
  cases hform : s.rstLow || malformedAccess a 0xF#4 with
  | true => exact hostRead_refused s a 0xF#4 hform
  | false =>
    simp only [State.hostRead, hform, hdest]
    cases hregion : regionOf a with
    | cached | direct => rfl
    | control => exact absurd ((regionOf_eq_control_iff a).mp hregion) (by omega)

theorem exec_demandRead (s : State) (a : HostAddr) : exec (.demandRead a 0xF#4) s = .next (s.hostRead a 0xF#4) := rfl

theorem exec_demandRead_broadcast (s : State) {base : Nat} (hbase : base = 0 ∨ base = 0x40000) (l : LinkNo)
    (reg : RegNo) : exec (.demandRead (windowAddr base l 63 reg) 0xF#4) s = .next (s.ended .error none) := by
  rw [exec_demandRead]
  exact congrArg _ (hostRead_broadcast s (windowAddr_lt hbase l 63 reg) (windowDest_windowAddr hbase l 63 reg))

/-- Settles O10, by the numbers of the bits that name a region, a window field or a word, and the accesses the port ends
with ERROR. -/
theorem addressMap : Obligations.AddressMap := by
  unfold Obligations.AddressMap
  refine ⟨fun l n reg => ⟨?regions, ?fields⟩, ⟨destOf_broadcast, destOf_station⟩, ?split, regionOf_eq_control_iff,
    fun a w haligned => controlWordAt_eq_some_iff haligned w, ?write, fun a s => hostRead_unnamed s,
    fun l reg s => ?broadcast⟩
  case regions => exact ⟨regionOf_windowAddr_cached l n reg, regionOf_windowAddr_direct l n reg⟩
  case fields =>
    exact fun base hbase => ⟨windowLink_windowAddr hbase l n reg, windowDest_windowAddr hbase l n reg,
      windowRegister_windowAddr hbase l n reg⟩
  case split => exact fun a hlt haligned => ⟨_, _, _, _, by omega, eq_windowAddr_of_lt hlt haligned⟩
  case write =>
    intro a s d ha h
    rw [exec_registerWrite, hostWrite_notWritable s d ha h]
  case broadcast =>
    exact ⟨exec_demandRead_broadcast s (.inr rfl) l reg, exec_demandRead_broadcast s (.inl rfl) l reg⟩

end Sys2Proof.Machine
end

section
/-! PROOFS. The words of the port (10): what a command and a link reset leave of them, and the accesses to COMMAND,
ARG0-ARG3, RESULT0-RESULT3, TAKEN1-TAKEN3 and IDENT. -/

namespace Sys2Proof.Machine

/-! ## What the operations leave of the port's own words (R164, R166) -/

@[simp] theorem entryEvent_command (s : State) (p : Entry → Bool) (f : Entry → Entry × List Reason) :
    (s.entryEvent p f).command = s.command := by rw [entryEvent_frame]
@[simp] theorem entryEvent_args (s : State) (p : Entry → Bool) (f : Entry → Entry × List Reason) :
    (s.entryEvent p f).args = s.args := by rw [entryEvent_frame]
@[simp] theorem entryEvent_results (s : State) (p : Entry → Bool) (f : Entry → Entry × List Reason) :
    (s.entryEvent p f).results = s.results := by rw [entryEvent_frame]
@[simp] theorem entryEvent_taken (s : State) (p : Entry → Bool) (f : Entry → Entry × List Reason) :
    (s.entryEvent p f).taken = s.taken := by rw [entryEvent_frame]

@[simp] theorem removeEntries_command (s : State) (p : Key → Bool) : (s.removeEntries p).command = s.command := by
  rw [removeEntries_eq_withoutKeys]
  rfl
@[simp] theorem removeEntries_args (s : State) (p : Key → Bool) : (s.removeEntries p).args = s.args := by
  rw [removeEntries_eq_withoutKeys]
  rfl

@[simp] theorem result_command (s : State) (c : ResultCode) (r1 r2 r3 : Word) :
    (s.result c r1 r2 r3).command = s.command := rfl
@[simp] theorem result_args (s : State) (c : ResultCode) (r1 r2 r3 : Word) : (s.result c r1 r2 r3).args = s.args := rfl
@[simp] theorem finish_command (s : State) (c : ResultCode) : (s.finish c).command = s.command := rfl
@[simp] theorem finish_args (s : State) (c : ResultCode) : (s.finish c).args = s.args := rfl

/-! ## What a command leaves of them (R164)

Each body is split along its checks: a refusal only writes the result words, and what a body that passes does beside that
reaches the table, the list or a link column. -/

/-- A command body that leaves the words it ran from as it found them: COMMAND and ARG0-ARG3. -/
def LeavesCommandWords (run : State → State) : Prop := ∀ s, (run s).command = s.command ∧ (run s).args = s.args

theorem cmdWatch_leavesCommandWords : LeavesCommandWords State.cmdWatch := by
  intro s
  unfold State.cmdWatch
  repeat' split
  all_goals simp

theorem cmdUnwatch_leavesCommandWords : LeavesCommandWords State.cmdUnwatch := by
  intro s
  unfold State.cmdUnwatch
  repeat' split
  all_goals simp

theorem cmdModify_leavesCommandWords : LeavesCommandWords State.cmdModify := by
  intro s
  unfold State.cmdModify
  repeat' split
  all_goals simp [State.keyEvent]

theorem cmdInspect_leavesCommandWords : LeavesCommandWords State.cmdInspect := by
  intro s
  unfold State.cmdInspect
  repeat' split
  all_goals simp [State.snapshot]

theorem cmdEnumerate_leavesCommandWords : LeavesCommandWords State.cmdEnumerate := by
  intro s
  unfold State.cmdEnumerate
  repeat' split
  all_goals simp [State.snapshot]

theorem cmdPurge_leavesCommandWords : LeavesCommandWords State.cmdPurge := by
  intro s
  unfold State.cmdPurge
  split <;> simp

theorem cmdHold_leavesCommandWords : LeavesCommandWords State.cmdHold := by
  intro s
  unfold State.cmdHold
  repeat' split
  all_goals simp

theorem cmdRelease_leavesCommandWords : LeavesCommandWords State.cmdRelease := by
  intro s
  unfold State.cmdRelease
  repeat' split
  all_goals simp

theorem cmdForget_leavesCommandWords : LeavesCommandWords State.cmdForget := by
  intro s
  unfold State.cmdForget
  repeat' split
  all_goals simp [State.setStation]

theorem cmdLinkRun_leavesCommandWords : LeavesCommandWords State.cmdLinkRun := by
  intro s
  unfold State.cmdLinkRun
  repeat' split
  all_goals simp [State.recapture]

theorem cmdLinkStop_leavesCommandWords : LeavesCommandWords State.cmdLinkStop := by
  intro s
  unfold State.cmdLinkStop
  repeat' split
  all_goals simp

theorem cmdLinkReset_leavesCommandWords : LeavesCommandWords State.cmdLinkReset := by
  intro s
  unfold State.cmdLinkReset
  split <;> simp [State.resetLink]

theorem cmdLinkConfig_leavesCommandWords : LeavesCommandWords State.cmdLinkConfig := by
  intro s
  unfold State.cmdLinkConfig
  repeat' split
  all_goals simp

theorem cmdSetSlot_leavesCommandWords : LeavesCommandWords State.cmdSetSlot := by
  intro s
  unfold State.cmdSetSlot
  repeat' split
  all_goals simp

theorem cmdSetPosition_leavesCommandWords : LeavesCommandWords State.cmdSetPosition := by
  intro s
  unfold State.cmdSetPosition
  repeat' split
  all_goals simp

theorem LeavesCommandWords.ite {c : Prop} [Decidable c] {f g : State → State} (hf : LeavesCommandWords f)
    (hg : LeavesCommandWords g) : LeavesCommandWords (if c then f else g) := by
  split
  · exact hf
  · exact hg

/-- Whatever value is written, the command it names leaves COMMAND and the ARG words, and so does a value that names
none. -/
theorem commandBody_leavesCommandWords (v : Word) : LeavesCommandWords (commandBody v) :=
  .ite cmdWatch_leavesCommandWords <| .ite cmdUnwatch_leavesCommandWords <| .ite cmdModify_leavesCommandWords <|
  .ite cmdInspect_leavesCommandWords <| .ite cmdEnumerate_leavesCommandWords <| .ite cmdPurge_leavesCommandWords <|
  .ite cmdHold_leavesCommandWords <| .ite cmdRelease_leavesCommandWords <| .ite cmdForget_leavesCommandWords <|
  .ite cmdLinkRun_leavesCommandWords <| .ite cmdLinkStop_leavesCommandWords <|
  .ite cmdLinkReset_leavesCommandWords <| .ite cmdLinkConfig_leavesCommandWords <|
  .ite cmdSetSlot_leavesCommandWords <| .ite cmdSetPosition_leavesCommandWords fun _ => ⟨rfl, rfl⟩

/-! ## Writes to COMMAND (R164, R165) -/

theorem exec_of_mem_commandTable {p : Instr × Word} (h : p ∈ commandTable) (s : State) :
    exec p.1 s = .next (s.onCommand p.2 (commandBody p.2)) := by
  simp only [commandTable, List.mem_cons, List.not_mem_nil, or_false] at h
  rcases h with rfl | rfl | rfl | rfl | rfl | rfl | rfl | rfl | rfl | rfl | rfl | rfl | rfl | rfl | rfl <;> rfl

theorem exec_unknownCommand (v : Word) (s : State) :
    exec (.unknownCommand v) s = .next (s.onCommand v (commandBody v)) := rfl

/-- A value stored in COMMAND, known or not, stays there beside the ARG words, and the write ends DONE. -/
theorem onCommand_commandBody_stores {s : State} (v : Word) (hr : s.rstLow = false) :
    (s.onCommand v (commandBody v)).args = s.args ∧ (s.onCommand v (commandBody v)).command = v ∧
      (s.onCommand v (commandBody v)).hterm = .done := by
  obtain ⟨hcommand, hargs⟩ := commandBody_leavesCommandWords v { s with command := v }
  rw [onCommand_high s v _ hr]
  exact ⟨hargs, hcommand, rfl⟩

theorem exec_registerWrite_word {s : State} {a : HostAddr} {w : ControlWord} (d : Word) (hr : s.rstLow = false)
    (h : HoldsWord a w) : exec (.registerWrite a 0xF#4 d) s = .next (s.writeControl w d) := by
  rw [exec_registerWrite, hostWrite_word d hr h]

/-- Settles O7, by the word that stands at each address, what a read and a write of it do, and what a command and the two
resets leave of the port's own words. -/
theorem portWords : Obligations.PortWords := by
  unfold Obligations.PortWords
  refine ⟨fun s n d hr => ?commandWords, fun s n hr => hostRead_word hr (holdsWord_result n) nofun,
    fun s n hr => hostRead_word hr (holdsWord_taken n) nofun, ⟨rfl, rfl, rfl, rfl⟩, fun p s hp hr => ?known,
    fun v s hr => ?unknown, ?pinReset, fun s l => ?linkReset⟩
  case commandWords =>
    exact ⟨exec_registerWrite_word d hr (holdsWord_arg n), hostRead_word hr (holdsWord_arg n) nofun,
      hostRead_word hr holdsWord_command nofun, hostRead_word hr holdsWord_ident nofun,
      exec_registerWrite_word d hr holdsWord_ident⟩
  case known =>
    exact ⟨_, exec_of_mem_commandTable hp s, exec_registerWrite_word p.2 hr holdsWord_command,
      onCommand_commandBody_stores p.2 hr⟩
  case unknown => exact ⟨_, exec_unknownCommand v s, onCommand_commandBody_stores v hr⟩
  case pinReset => decide
  case linkReset => simp [State.resetLink]

end Sys2Proof.Machine
end

section
/-! PROOFS. What a step can do, once: every command and every REFCLK period is a chain of named moves, so that a law of the
state is kept by every step as soon as each move keeps it. -/

namespace Sys2Proof.Machine

/-! ## The moves of the part -/

/-- What a command can do to the state without giving an entry a value: each constructor is one block's act with the
checks that have passed before it. -/
inductive QuietMove : State → State → Prop
  | port (s : State) (hterm : Termination) (hdata : Option Word) (command : Word) (args results : Vector Word 4)
      (taken : Vector Word 3) :
      QuietMove s { s with
        hterm := hterm, hdata := hdata, command := command, args := args, results := results, taken := taken }
  | remove (s : State) (p : Key → Bool) : QuietMove s (s.removeEntries p)
  | modify (s : State) (k : Key) (code : Fin 8) (phase : Fin 64) (mask : Value) (first : Bool)
      (legal : scheduleLegal code phase = true) :
      QuietMove s ((s.keyEvent k (fun x => (x.modified code phase mask first, []))).arbitrate k.link)
  | hold (s : State) (l : LinkNo) (st : StationNo) (n : Option Nat) (range : ∀ m, n = some m → 1 ≤ m ∧ m ≤ 65535)
      (found : (s.station l st).isMissing = false) :
      QuietMove s (s.updLink l (fun k => k.enterHeld st (k.station st) ⟨.host, n⟩))
  | release (s : State) (l : LinkNo) (st : StationNo) (held : (s.station l st).isHeld = true) :
      QuietMove s ((s.updLink l (fun k => k.setStation st (k.station st).afterHold)).arbitrate l)
  | forget (s : State) (l : LinkNo) (st : StationNo) (missing : (s.station l st).isMissing = true) :
      QuietMove s
        (((s.setStation l st StationRecord.reset).entryEvent (Entry.ofStation l st) Entry.onForget).arbitrate l)
  | runAfresh (s : State) (l : LinkNo) (high : s.rstLow = false)
      (idle : (s.link l).state = .off ∨ (s.link l).state = .halted) : QuietMove s ((s.ranAfresh l).arbitrate l)
  | runOn (s : State) (l : LinkNo) (stopping : (s.link l).state = .stopping) :
      QuietMove s (s.updLink l (fun k => { k with state := .running, slotTimer := k.slotTimer.resume }))
  | stop (s : State) (l : LinkNo) (running : (s.link l).state = .running) :
      QuietMove s (s.updLink l (fun k => if k.inFlight.isSome then k.enterStopping else k.enterHalted .hostStop))
  | resetLink (s : State) (l : LinkNo) : QuietMove s (s.resetLink l)
  | configure (s : State) (l : LinkNo) (divider retryLimit missLimit : Nat)
      (range : 3 ≤ divider ∧ divider ≤ 999 ∧ retryLimit ≤ 7 ∧ 1 ≤ missLimit ∧ missLimit ≤ 15)
      (idle : (s.link l).state = .off ∨ (s.link l).state = .halted) :
      QuietMove s
        (s.updLink l (fun k => { k with divider := divider, retryLimit := retryLimit, missLimit := missLimit }))
  | setSlot (s : State) (l : LinkNo) (n : Nat) (range : 4 ≤ n ∧ n ≤ 255) :
      QuietMove s (s.updLink l (fun k => { k with slotSetting := n }))
  | setPosition (s : State) (l : LinkNo) (p : Fin 64) : QuietMove s (s.updLink l (fun k => { k with position := p }))
  | deliver (s : State) (l : LinkNo) (key : Key) (v : Option Value) (n : Nat)
      (ready : (s.link l).demand = .ready key v n) : QuietMove s (s.updLink l (fun k => { k with demand := .empty }))
  | demand (s : State) (key : Key) (running : (s.link key.link).state = .running)
      (heeded : (s.station key.link key.station).leftAlone = false) (empty : (s.link key.link).demand = .empty) :
      QuietMove s ((s.updLink key.link (fun k => { k with demand := .waiting key })).arbitrate key.link)
  | take (s : State) (r : ChangeRecord) (rest : List ChangeRecord) (oldest : s.list = r :: rest) :
      QuietMove s ({ s with list := rest } : State).oldestLost
  | noticeSettings (s : State) (enable : Bool) (threshold : BitVec 8) (range : threshold ≠ 0#8) :
      QuietMove s { s with noticeEnable := enable, threshold := threshold }
  | newLinger (s : State) (linger : BitVec 8) : QuietMove s ({ s with linger := linger } : State).oldestLost
  | events (s : State) (l : LinkNo) (events enables : BitVec 6 → BitVec 6) :
      QuietMove s (s.updLink l (fun k => { k with events := events k.events, enables := enables k.enables }))
  | pinLow (s : State) : QuietMove s s.pinLow
  | pinHigh (s : State) (low : s.rstLow = true) : QuietMove s s.pinHigh
  | slotTick (s : State) (l : LinkNo) (running : (s.link l).state = .running) : QuietMove s (s.slotTick l)
  | holdExpiry (s : State) (l : LinkNo) (st : StationNo) (held : (s.station l st).isHeld = true) :
      QuietMove s ((s.updLink l (fun k =>
        { k.setStation st (k.station st).afterHold with endedHolds := st :: k.endedHolds })).arbitrate l)
  | demandExpiry (s : State) (l : LinkNo) : QuietMove s (s.updLink l Link.demandTick)
  | lingerExpiry (s : State) (t : Timer) (runs : s.lingerTimer = some t) :
      QuietMove s { s with lingerTimer := none, lingered := true }
  | rested (s : State) (l : LinkNo) (rests : (s.link l).line.rest ≠ .none) :
      QuietMove s (s.updLink l (fun k => { k with line := k.line.rested k.inFlight }))
  | retryGap (s : State) (l : LinkNo) (tx : Transaction) (inFlight : (s.link l).inFlight = some tx)
      (underWay : (s.link l).line.underWay = true) (remains : (s.link l).line.attempt ≤ (s.link l).retryLimit) :
      QuietMove s (s.updLink l (fun k => { k with line := k.line.retryGap }))
  | requestSent (s : State) (l : LinkNo) (tx : Transaction) (inFlight : (s.link l).inFlight = some tx)
      (request : (s.link l).line.phase = .request) :
      QuietMove s (s.updLink l (fun k => { k with line := k.line.sent }))

/-- What a command can do to the state. -/
inductive Move : State → State → Prop
  | quiet {s t : State} (h : QuietMove s t) : Move s t
  | watch (s : State) (k : Key) (w : Nat) (code : Fin 8) (phase : Fin 64) (mask : Value) (first : Bool)
      (legal : scheduleLegal code phase = true) (unwatched : s.find k = none) (free : s.freeWay k.bucket = some w) :
      Move s (({ s with
        table := insertEntry (s.newEntry k (positionOf k.bucket w) code phase mask first) s.table } : State).arbitrate
          k.link)
  | accept (s : State) (l : LinkNo) (d : Dest) (reg : RegNo) (data : Value) (on : (s.link l).state ≠ .off)
      (found : s.toMissing l d = false) (room : (s.link l).queue.length < Config.queueCapacity) :
      Move s (s.acceptWrite l d reg data)
  | complete (s : State) (l : LinkNo) (tx : Transaction) (sld : List Bool) (c : AttemptClass)
      (inFlight : (s.link l).inFlight = some tx) (underWay : (s.link l).line.underWay = true)
      (class_eq : classify tx (s.link l).line.sentWhole ((s.link l).line.seen tx sld) = c) :
      Move s (s.complete l tx (c.outcome tx) c)

/-- What a step can do to the state: a move, or what the model's queue and clock do besides. -/
inductive StepMove : State → State → Prop
  | move {s t : State} (h : Move s t) : StepMove s t
  | queue (s : State) (pending : List Instr) : StepMove s { s with pending := pending }
  | choices (s : State) (n : Nat) : StepMove s { s with choices := n }
  | advance (s : State) : StepMove s s.advanceTimers
  | openWindow (s : State) (l : LinkNo) (turnaround : (s.link l).line.phase = .turnaround) :
      StepMove s (s.updLink l (fun k => { k with line := k.line.openWindow }))
  | lengthen (s : State) (l : LinkNo) (tx : Transaction) (level : Bool) (inFlight : (s.link l).inFlight = some tx)
      (reply : (s.link l).line.phase = .reply)
      (more : ((s.link l).line.reply ++ [level]).length <
        ({ (s.link l).line with reply := (s.link l).line.reply ++ [level] } : LineState).windowBits tx.isRead) :
      StepMove s (s.updLink l (fun k => { k with
        line := k.line.lengthen (k.line.reply ++ [level])
          (({ k.line with reply := k.line.reply ++ [level] } : LineState).windowBits tx.isRead -
            (k.line.reply ++ [level]).length) }))

/-- A chain of moves that give no entry a value. -/
abbrev QuietMoves : State → State → Prop := Relation.ReflTransGen QuietMove

/-- A chain of moves. -/
abbrev Moves : State → State → Prop := Relation.ReflTransGen Move

/-- A chain of moves of a step. -/
abbrev StepMoves : State → State → Prop := Relation.ReflTransGen StepMove

theorem QuietMoves.moves {s t : State} (h : QuietMoves s t) : Moves s t :=
  Relation.ReflTransGen.mono (fun _ _ => Move.quiet) _ _ h

theorem Moves.stepMoves {s t : State} (h : Moves s t) : StepMoves s t :=
  Relation.ReflTransGen.mono (fun _ _ => StepMove.move) _ _ h

/-- A chain of moves each of which keeps a law keeps it. -/
theorem keeps_of_chain {R : State → State → Prop} {P : State → Prop} (hkeep : ∀ s t, R s t → P s → P t) {s t : State}
    (h : Relation.ReflTransGen R s t) (hs : P s) : P t := by
  induction h with
  | refl => exact hs
  | tail _ hmove ih => exact hkeep _ _ hmove ih

/-! ## Acts at the port -/

theorem QuietMoves.answer {s t : State} (h : QuietMoves s t) (x : Termination) (d : Option Word) :
    QuietMoves s (t.answer x d) := h.tail (.port t x d t.command t.args t.results t.taken)

theorem Moves.answer {s t : State} (h : Moves s t) (x : Termination) (d : Option Word) : Moves s (t.answer x d) :=
  h.tail (.quiet (.port t x d t.command t.args t.results t.taken))

theorem Moves.result {s t : State} (h : Moves s t) (c : ResultCode) (r1 r2 r3 : Word) :
    Moves s (t.result c r1 r2 r3) :=
  h.tail (.quiet (.port t t.hterm t.hdata t.command t.args #v[c.number, r1, r2, r3] t.taken))

theorem QuietMoves.result {s t : State} (h : QuietMoves s t) (c : ResultCode) (r1 r2 r3 : Word) :
    QuietMoves s (t.result c r1 r2 r3) :=
  h.tail (.port t t.hterm t.hdata t.command t.args #v[c.number, r1, r2, r3] t.taken)

theorem QuietMoves.finish {s t : State} (h : QuietMoves s t) (c : ResultCode) : QuietMoves s (t.finish c) :=
  h.result c 0#32 0#32 0#32

/-- A move that ends with a pick, with the RESULT words written before the pick. -/
theorem QuietMove.result_arbitrate {s u : State} {l : LinkNo} (h : QuietMove s (u.arbitrate l)) (c : ResultCode)
    (r1 r2 r3 : Word) : QuietMoves s ((u.result c r1 r2 r3).arbitrate l) := by
  rw [arbitrate_result]
  exact QuietMoves.result (.single h) c r1 r2 r3

theorem QuietMove.answer_arbitrate {s u : State} {l : LinkNo} (h : QuietMove s (u.arbitrate l)) (x : Termination)
    (d : Option Word) : QuietMoves s ((u.answer x d).arbitrate l) := by
  rw [arbitrate_answer]
  exact QuietMoves.answer (.single h) x d

/-! ## The command bodies -/

theorem finish_moves (s : State) (c : ResultCode) : Moves s (s.finish c) := (QuietMoves.finish .refl c).moves

theorem cmdWatch_moves (s : State) : Moves s s.cmdWatch := by
  unfold State.cmdWatch
  split
  next => exact finish_moves s _
  next k _ =>
    split
    next => exact finish_moves s _
    next hlegal =>
      split
      next => exact finish_moves s _
      next hnew =>
        split
        next => exact finish_moves s _
        next w hw =>
          simp only [arbitrate_result]
          exact .result (.single (.watch s k w _ _ _ _ (by simpa using hlegal) (by simpa using hnew) hw)) ..

theorem cmdUnwatch_moves (s : State) : QuietMoves s s.cmdUnwatch := by
  unfold State.cmdUnwatch
  split
  · exact .finish .refl _
  · split
    · exact .finish .refl _
    · exact .finish (.single (.remove s _)) _

theorem cmdModify_moves (s : State) : QuietMoves s s.cmdModify := by
  unfold State.cmdModify
  split
  next => exact .finish .refl _
  next k _ =>
    split
    next => exact .finish .refl _
    next hlegal =>
      split
      next => exact .finish .refl _
      next => exact (QuietMove.modify s k _ _ _ _ (by simpa using hlegal)).result_arbitrate ..

theorem cmdInspect_moves (s : State) : QuietMoves s s.cmdInspect := by
  unfold State.cmdInspect
  split
  · exact .finish .refl _
  · split
    · exact .finish .refl _
    · exact .result .refl ..

theorem cmdEnumerate_moves (s : State) : QuietMoves s s.cmdEnumerate := by
  unfold State.cmdEnumerate
  split
  · exact .finish .refl _
  · split
    · exact .finish .refl _
    · exact .result .refl ..

theorem cmdPurge_moves (s : State) : QuietMoves s s.cmdPurge := by
  unfold State.cmdPurge
  split
  · exact .finish .refl _
  · exact .result (.single (.remove s _)) ..

theorem cmdHold_moves (s : State) : QuietMoves s s.cmdHold := by
  unfold State.cmdHold
  split
  next => exact .finish .refl _
  next l st _ =>
    split
    next => exact .finish .refl _
    next hrange =>
      split
      next => exact .finish .refl _
      next hfound =>
        refine .finish (.single (.hold s l st _ (fun m hm => ?_) (by simpa using hfound))) _
        split at hm
        next => cases hm
        next hzero =>
          obtain rfl := Option.some.inj hm
          have hne : s.arg1.toNat ≠ 0 := fun h => hzero (BitVec.eq_of_toNat_eq h)
          omega

theorem cmdRelease_moves (s : State) : QuietMoves s s.cmdRelease := by
  unfold State.cmdRelease
  split
  next => exact .finish .refl _
  next l st _ =>
    split
    next hheld => exact (QuietMove.release s l st hheld).result_arbitrate ..
    next => exact .finish .refl _

theorem cmdForget_moves (s : State) : QuietMoves s s.cmdForget := by
  unfold State.cmdForget
  split
  next => exact .finish .refl _
  next l st _ =>
    split
    next hmissing => exact (QuietMove.forget s l st hmissing).result_arbitrate ..
    next => exact .finish .refl _

theorem cmdLinkRun_moves (s : State) (hr : s.rstLow = false) : QuietMoves s s.cmdLinkRun := by
  unfold State.cmdLinkRun
  split
  next => exact .finish .refl _
  next l _ =>
    split
    next h => exact (QuietMove.runAfresh s l hr (.inl h)).result_arbitrate ..
    next h => exact (QuietMove.runAfresh s l hr (.inr h)).result_arbitrate ..
    next h => exact .finish (.single (.runOn s l h)) _
    next => exact .finish .refl _

theorem cmdLinkStop_moves (s : State) : QuietMoves s s.cmdLinkStop := by
  unfold State.cmdLinkStop
  split
  next => exact .finish .refl _
  next l _ =>
    split
    next h => exact .finish (.single (.stop s l h)) _
    all_goals exact .finish .refl _

theorem cmdLinkReset_moves (s : State) : QuietMoves s s.cmdLinkReset := by
  unfold State.cmdLinkReset
  split
  · exact .finish .refl _
  · exact .finish (.single (.resetLink s _)) _

theorem cmdLinkConfig_moves (s : State) : QuietMoves s s.cmdLinkConfig := by
  unfold State.cmdLinkConfig
  split
  next => exact .finish .refl _
  next l _ =>
    split
    next => exact .finish .refl _
    next hrange =>
      split
      next => exact .finish .refl _
      next hidle =>
        have hstate := (idle_iff _).mp (by simpa using hidle)
        exact .finish (.single (.configure s l _ _ _ (by omega) hstate)) _

theorem cmdSetSlot_moves (s : State) : QuietMoves s s.cmdSetSlot := by
  unfold State.cmdSetSlot
  split
  next => exact .finish .refl _
  next l _ =>
    split
    next => exact .finish .refl _
    next hrange => exact .finish (.single (.setSlot s l _ (by omega))) _

theorem cmdSetPosition_moves (s : State) : QuietMoves s s.cmdSetPosition := by
  unfold State.cmdSetPosition
  split
  next => exact .finish .refl _
  next l _ =>
    split
    next =>
      split
      · exact .finish (.single (.setPosition s l _)) _
      · exact .finish .refl _
    next => exact .finish .refl _

/-- A command body whose acts are moves, with RST_N high. -/
def RunsByMoves (run : State → State) : Prop := ∀ s : State, s.rstLow = false → Moves s (run s)

/-- A command body whose acts give no entry a value, with RST_N high. -/
def RunsQuietly (run : State → State) : Prop := ∀ s : State, s.rstLow = false → QuietMoves s (run s)

theorem runsQuietly_of_moves {run : State → State} (h : ∀ s, QuietMoves s (run s)) : RunsQuietly run := fun s _ => h s

theorem RunsQuietly.byMoves {run : State → State} (h : RunsQuietly run) : RunsByMoves run := fun s hr => (h s hr).moves

theorem RunsByMoves.ite {c : Prop} [Decidable c] {f g : State → State} (hf : RunsByMoves f) (hg : RunsByMoves g) :
    RunsByMoves (if c then f else g) := by
  split
  · exact hf
  · exact hg

theorem RunsByMoves.ite_quiet {c : Prop} [Decidable c] {f g : State → State} (hf : ∀ s, QuietMoves s (f s))
    (hg : RunsByMoves g) : RunsByMoves (if c then f else g) := .ite (runsQuietly_of_moves hf).byMoves hg

/-- Whatever value is written to COMMAND, what it runs is a chain of moves. -/
theorem commandBody_moves (v : Word) : RunsByMoves (commandBody v) :=
  .ite (fun s _ => cmdWatch_moves s) <| .ite_quiet cmdUnwatch_moves <| .ite_quiet cmdModify_moves <|
  .ite_quiet cmdInspect_moves <| .ite_quiet cmdEnumerate_moves <| .ite_quiet cmdPurge_moves <|
  .ite_quiet cmdHold_moves <| .ite_quiet cmdRelease_moves <| .ite_quiet cmdForget_moves <|
  .ite (RunsQuietly.byMoves cmdLinkRun_moves) <| .ite_quiet cmdLinkStop_moves <| .ite_quiet cmdLinkReset_moves <|
  .ite_quiet cmdLinkConfig_moves <| .ite_quiet cmdSetSlot_moves <| .ite_quiet cmdSetPosition_moves
    fun s _ => finish_moves s _

theorem onCommand_moves (s : State) (v : Word) : Moves s (s.onCommand v (commandBody v)) := by
  cases hr : s.rstLow with
  | true =>
    rw [onCommand_low s v _ hr]
    exact .answer .refl _ _
  | false =>
    rw [onCommand_high s v _ hr]
    exact .answer (.head (.quiet (.port s s.hterm s.hdata v s.args s.results s.taken))
      (commandBody_moves v { s with command := v } hr)) _ _

/-- A command whose body gives no entry a value. -/
theorem onCommand_quietMoves (s : State) (v : Word) {run : State → State} (hrun : RunsQuietly run) :
    QuietMoves s (s.onCommand v run) := by
  cases hr : s.rstLow with
  | true =>
    rw [onCommand_low s v _ hr]
    exact .answer .refl _ _
  | false =>
    rw [onCommand_high s v _ hr]
    exact .answer (.head (.port s s.hterm s.hdata v s.args s.results s.taken) (hrun { s with command := v } hr)) _ _

/-! ## Host accesses -/

theorem takeRead_moves (s : State) : QuietMoves s s.takeRead := by
  unfold State.takeRead
  split
  next => exact .answer .refl _ _
  next r rest hlist =>
    have hwords : ({ s with list := rest, taken := #v[r.taken1, s.taken2 r, taken3 rest.length] } : State).oldestLost =
        { ({ s with list := rest } : State).oldestLost with taken := #v[r.taken1, s.taken2 r, taken3 rest.length] } := by
      simp only [oldestLost_eq]
    rw [hwords]
    exact .answer (.tail (.single (.take s r rest hlist)) (.port _ _ _ _ _ _ _)) _ _

theorem noticeCtlWrite_moves (s : State) (d : Word) : QuietMoves s (s.noticeCtlWrite d) := by
  unfold State.noticeCtlWrite
  simp only
  split
  next => exact .answer .refl _ _
  next hrange =>
    have hset := QuietMove.noticeSettings s (d.getLsbD 16) _ hrange
    refine .answer ?_ _ _
    split
    next hsame => exact .single (hsame ▸ hset)
    next =>
      refine .head hset (.single ?_)
      exact .newLinger { s with noticeEnable := d.getLsbD 16, threshold := d.extractLsb' 0 8 } (d.extractLsb' 8 8)

theorem writeControl_quietMoves (s : State) {w : ControlWord} (hw : w ≠ .command) (d : Word) :
    QuietMoves s (s.writeControl w d) := by
  cases w with
  | command => exact absurd rfl hw
  | arg n => exact .answer (.single (.port s s.hterm s.hdata s.command _ s.results s.taken)) _ _
  | noticeCtl => exact noticeCtlWrite_moves s d
  | linkEvents l => exact .answer (.single (.events s l (fun b => b &&& ~~~(d.extractLsb' 0 6)) id)) _ _
  | linkEnables l => exact .answer (.single (.events s l id fun _ => d.extractLsb' 0 6)) _ _
  | _ => exact .answer .refl _ _

theorem writeControl_moves (s : State) (w : ControlWord) (d : Word) : Moves s (s.writeControl w d) := by
  by_cases hw : w = .command
  · exact hw ▸ onCommand_moves s d
  · exact (writeControl_quietMoves s hw d).moves

theorem windowWrite_moves (s : State) (l : LinkNo) (d : Dest) (reg : RegNo) (data : Value) :
    Moves s (s.windowWrite l d reg data) := by
  unfold State.windowWrite
  split
  next => exact (QuietMoves.answer .refl _ _).moves
  next hon =>
    split
    next => exact (QuietMoves.answer .refl _ _).moves
    next hfound =>
      split
      next => exact (QuietMoves.answer .refl _ _).moves
      next hroom => exact .single (.accept s l d reg data hon (by simpa using hfound) (by omega))

theorem hostWrite_moves (s : State) (a : HostAddr) (be : ByteEnables) (d : Word) : Moves s (s.hostWrite a be d) := by
  unfold State.hostWrite
  split
  next => exact (QuietMoves.answer .refl _ _).moves
  next =>
    split
    next => exact windowWrite_moves ..
    next => exact windowWrite_moves ..
    next =>
      split
      · exact writeControl_moves s _ d
      · exact (QuietMoves.answer .refl _ _).moves

theorem deliver_moves (s : State) (k key : Key) (v : Option Value) (n : Nat)
    (ready : (s.link k.link).demand = .ready key v n) : QuietMoves s (s.deliver k v) := by
  have hemptied := QuietMove.deliver s k.link key v n ready
  cases v with
  | some v => exact .answer (.single hemptied) _ _
  | none => exact .answer (.single hemptied) _ _

theorem startDemand_moves (s : State) (k : Key) : QuietMoves s (s.startDemand k) := by
  unfold State.startDemand
  split
  next => exact .answer .refl _ _
  next hrunning =>
    split
    next => exact .answer .refl _ _
    next hheeded =>
      split
      next hempty =>
        exact (QuietMove.demand s k (by simpa using hrunning) (by simpa using hheeded) hempty).answer_arbitrate ..
      all_goals exact .answer .refl _ _

theorem demandRead_moves (s : State) (k : Key) : QuietMoves s (s.demandRead k) := by
  unfold State.demandRead
  split
  next key v n hready =>
    split
    · exact deliver_moves s k key v n hready
    · exact startDemand_moves s k
  all_goals exact startDemand_moves s k

theorem cachedRead_moves (s : State) (l : LinkNo) (d : Dest) (reg : RegNo) : QuietMoves s (s.cachedRead l d reg) := by
  unfold State.cachedRead
  split
  · split
    · exact .answer .refl _ _
    · exact demandRead_moves s _
  · exact .answer .refl _ _

theorem demandReadAt_moves (s : State) (l : LinkNo) (d : Dest) (reg : RegNo) :
    QuietMoves s (s.demandReadAt l d reg) := by
  cases d with
  | station st => exact demandRead_moves s _
  | broadcast => exact .answer .refl _ _

theorem hostRead_moves (s : State) (a : HostAddr) (be : ByteEnables) : QuietMoves s (s.hostRead a be) := by
  unfold State.hostRead
  split
  next => exact .answer .refl _ _
  next =>
    split
    next => exact cachedRead_moves ..
    next => exact demandReadAt_moves ..
    next =>
      split
      next => exact takeRead_moves s
      all_goals exact .answer .refl _ _

/-- A write of a word of the control block other than COMMAND gives no entry a value. -/
theorem hostWrite_control_quietMoves (s : State) {a : HostAddr} (be : ByteEnables) (d : Word)
    (ha : regionOf a = .control) (hword : controlWordAt a ≠ some .command) : QuietMoves s (s.hostWrite a be d) := by
  unfold State.hostWrite
  simp only [ha]
  split
  · exact .answer .refl _ _
  · split
    next w hw => exact writeControl_quietMoves s (fun hcommand => hword (hw.trans (congrArg some hcommand))) d
    next => exact .answer .refl _ _

/-- The word at an address that a row of its own names is not COMMAND. -/
theorem HoldsWord.ne_command {a : HostAddr} {w : ControlWord} (h : HoldsWord a w) (hw : w ≠ .command) :
    controlWordAt a ≠ some .command := fun hcommand => hw (Option.some.inj (h.2.2.symm.trans hcommand))

/-- A value that is no code runs nothing (R165). -/
theorem commandBody_unknown {v : Word} (h : commandCodes.contains v = false) :
    commandBody v = fun s => s.finish .unknownCommand := by
  simp only [commandCodes, List.contains_cons, List.contains_nil, Bool.or_eq_false_iff, beq_eq_false_iff_ne] at h
  simp only [commandBody, h, if_false]

/-! ## Events -/

theorem slotTick_moves (s : State) (l : LinkNo) : QuietMoves s (s.slotTick l) := by
  by_cases hrunning : (s.link l).state = .running
  · exact .single (.slotTick s l hrunning)
  · rw [State.slotTick, if_neg hrunning]

theorem holdExpiry_moves (s : State) (l : LinkNo) (st : StationNo) : QuietMoves s (s.holdExpiry l st) := by
  unfold State.holdExpiry
  split
  next hstanding =>
    split
    · exact .single (.holdExpiry s l st (by simp [StationRecord.isHeld, hstanding]))
    · exact .refl
  all_goals exact .refl

theorem demandExpiry_moves (s : State) (l : LinkNo) : QuietMoves s (s.demandExpiry l) := by
  unfold State.demandExpiry
  split
  · split
    · exact .single (.demandExpiry s l)
    · exact .refl
  all_goals exact .refl

theorem lingerExpiry_moves (s : State) : QuietMoves s s.lingerExpiry := by
  unfold State.lingerExpiry
  split
  next t htimer => exact .single (.lingerExpiry s t htimer)
  next => exact .refl

theorem restEnd_moves (s : State) (l : LinkNo) {which : Rest} (hwhich : which ≠ .none) :
    QuietMoves s (s.restEnd l which) := by
  unfold State.restEnd
  split
  next hrest => exact .single (.rested s l (hrest.2 ▸ hwhich))
  next => exact .refl

theorem requestSentWhole_moves (s : State) (l : LinkNo) : QuietMoves s (s.requestSentWhole l) := by
  unfold State.requestSentWhole
  split
  next tx hflight =>
    split
    next hrequest => exact .single (.requestSent s l tx hflight hrequest.1)
    next => exact .refl
  next => exact .refl

theorem pinHigh_moves (s : State) : QuietMoves s s.pinHigh := by
  cases hlow : s.rstLow with
  | true => exact .single (.pinHigh s hlow)
  | false =>
    have hsame : s.pinHigh = s := by simp [State.pinHigh, hlow]
    rw [hsame]

/-- The end of an attempt is a retry, a completion with the class of the attempt, or nothing. -/
theorem attemptEnd_cases (s : State) (l : LinkNo) (sld : List Bool) :
    s.attemptEnd l sld = s ∨
    ∃ tx, (s.link l).inFlight = some tx ∧ (s.link l).line.underWay = true ∧
      ∃ c, classify tx (s.link l).line.sentWhole ((s.link l).line.seen tx sld) = c ∧
        ((s.link l).line.attempt ≤ (s.link l).retryLimit ∧ c.retried tx = true ∧
            s.attemptEnd l sld = s.updLink l (fun k => { k with line := k.line.retryGap }) ∨
          s.attemptEnd l sld = s.complete l tx (c.outcome tx) c) := by
  cases hflight : (s.link l).inFlight with
  | none => exact .inl (attemptEnd_of_none s sld hflight)
  | some tx =>
    cases hway : (s.link l).line.underWay with
    | false => exact .inl (attemptEnd_of_not_underWay s sld hway)
    | true =>
      refine .inr ⟨tx, rfl, rfl, _, rfl, ?_⟩
      rw [attemptEnd_of_underWay s sld hflight hway, State.endAttempt]
      split
      next h =>
        obtain ⟨hretried, hremains⟩ := Bool.and_eq_true_iff.mp h
        exact .inl ⟨of_decide_eq_true hremains, hretried, rfl⟩
      next => exact .inr rfl

theorem attemptEnd_moves (s : State) (l : LinkNo) (sld : List Bool) : Moves s (s.attemptEnd l sld) := by
  obtain h | ⟨tx, hflight, hway, c, hclass, ⟨hremains, -, h⟩ | h⟩ := attemptEnd_cases s l sld
  · rw [h]
  · rw [h]; exact .single (.quiet (.retryGap s l tx hflight hway hremains))
  · rw [h]; exact .single (.complete s l tx sld c hflight hway hclass)

/-! ## Every command -/

/-- What a command makes of the state: the one outcome it has. -/
def effect (i : Instr) (s : State) : State :=
  match exec i s with
  | .next t => t
  | .fault _ | .refused _ => s

/-- No command stops the part. -/
theorem exec_eq_effect (i : Instr) (s : State) : exec i s = .next (effect i s) := by cases i <;> rfl

theorem eq_effect_of_exec {i : Instr} {s t : State} (h : exec i s = .next t) : t = effect i s := by
  rw [exec_eq_effect] at h
  exact (Host.Outcome.next.inj h).symm

/-- The rows that may give an entry a value: the acceptance of a write, the end of an attempt, and WATCH by whatever row
its code is written. -/
def Loud : Instr → Bool
  | .watch | .unknownCommand _ | .windowWrite _ _ _ | .registerWrite _ _ _ | .attemptEnd _ _ => true
  | _ => false

/-- Every other row gives no entry a value. -/
theorem effect_quietMoves (i : Instr) (s : State) (hi : Loud i = false) : QuietMoves s (effect i s) := by
  cases i with
  | watch | unknownCommand | windowWrite | registerWrite | attemptEnd => cases hi
  | unwatch => exact onCommand_quietMoves s 0x02#32 (runsQuietly_of_moves cmdUnwatch_moves)
  | modify => exact onCommand_quietMoves s 0x03#32 (runsQuietly_of_moves cmdModify_moves)
  | inspect => exact onCommand_quietMoves s 0x04#32 (runsQuietly_of_moves cmdInspect_moves)
  | enumerate => exact onCommand_quietMoves s 0x05#32 (runsQuietly_of_moves cmdEnumerate_moves)
  | purge => exact onCommand_quietMoves s 0x06#32 (runsQuietly_of_moves cmdPurge_moves)
  | hold => exact onCommand_quietMoves s 0x10#32 (runsQuietly_of_moves cmdHold_moves)
  | release => exact onCommand_quietMoves s 0x11#32 (runsQuietly_of_moves cmdRelease_moves)
  | forget => exact onCommand_quietMoves s 0x12#32 (runsQuietly_of_moves cmdForget_moves)
  | linkRun => exact onCommand_quietMoves s 0x20#32 cmdLinkRun_moves
  | linkStop => exact onCommand_quietMoves s 0x21#32 (runsQuietly_of_moves cmdLinkStop_moves)
  | linkReset => exact onCommand_quietMoves s 0x22#32 (runsQuietly_of_moves cmdLinkReset_moves)
  | linkConfig => exact onCommand_quietMoves s 0x23#32 (runsQuietly_of_moves cmdLinkConfig_moves)
  | setSlot => exact onCommand_quietMoves s 0x24#32 (runsQuietly_of_moves cmdSetSlot_moves)
  | setPosition => exact onCommand_quietMoves s 0x25#32 (runsQuietly_of_moves cmdSetPosition_moves)
  | lookup a be => exact hostRead_moves s a be
  | demandRead a be => exact hostRead_moves s a be
  | take be => exact hostRead_moves s takeAddr be
  | noticeCtlWrite be d => exact hostWrite_control_quietMoves s be d (by decide) (by decide)
  | linkEventsWrite l be d =>
    have hword := linkEventsAddr_eq l ▸ holdsWord_linkEvents l
    exact hostWrite_control_quietMoves s be d hword.2.1 (hword.ne_command nofun)
  | linkEnablesWrite l be d =>
    have hword := linkEnablesAddr_eq l ▸ holdsWord_linkEnables l
    exact hostWrite_control_quietMoves s be d hword.2.1 (hword.ne_command nofun)
  | pinReset => exact .single (.pinLow s)
  | pinResetRelease => exact pinHigh_moves s
  | slotTick l => exact slotTick_moves s l
  | holdExpiry l st => exact holdExpiry_moves s l st
  | demandExpiry l => exact demandExpiry_moves s l
  | lingerExpiry => exact lingerExpiry_moves s
  | gapEnd l => exact restEnd_moves s l nofun
  | quietTimeEnd l => exact restEnd_moves s l nofun
  | requestSentWhole l => exact requestSentWhole_moves s l

/-- What a command does is a chain of moves. -/
theorem effect_moves (i : Instr) (s : State) : Moves s (effect i s) := by
  cases i with
  | watch => exact onCommand_moves s 0x01#32
  | unknownCommand v => exact onCommand_moves s v
  | windowWrite a be d => exact hostWrite_moves s a be d
  | registerWrite a be d => exact hostWrite_moves s a be d
  | attemptEnd l sld => exact attemptEnd_moves s l sld
  | _ => exact (effect_quietMoves _ s rfl).moves

/-! ## Every step -/

theorem lineEnds_stepMoves (s : State) (l : LinkNo) (level : Bool) : StepMoves s (s.lineEnds l level) := by
  unfold State.lineEnds
  simp only
  split
  next => exact (restEnd_moves s l (which := .gap) (by decide)).moves.stepMoves
  next => exact (restEnd_moves s l (which := .quiet) (by decide)).moves.stepMoves
  next => exact .refl
  next tx _ hflight =>
    split
    next =>
      split
      next => exact (attemptEnd_moves ..).stepMoves
      next =>
        split
        · exact (attemptEnd_moves ..).stepMoves
        · exact (requestSentWhole_moves s l).moves.stepMoves
    next hphase => exact .single (.openWindow s l hphase)
    next hphase =>
      split
      next hmore =>
        rw [updLink_congr s l (g := fun k => { k with
          line := k.line.lengthen (k.line.reply ++ [level])
            (({ k.line with reply := k.line.reply ++ [level] } : LineState).windowBits tx.isRead -
              (k.line.reply ++ [level]).length) }) rfl]
        exact .single (.lengthen s l tx level hflight hphase hmore)
      next => exact (attemptEnd_moves ..).stepMoves
    all_goals exact .refl

theorem fire_stepMoves (level : LinkNo → Bool) (s : State) (e : TimerId) : StepMoves s (s.fire level e) := by
  cases e with
  | line l => exact lineEnds_stepMoves s l _
  | slot l =>
    rw [State.fire]
    split
    · exact (slotTick_moves s l).moves.stepMoves
    · exact .refl
  | linger =>
    rw [State.fire]
    split
    · exact (lingerExpiry_moves s).moves.stepMoves
    · exact .refl

theorem foldl_fire_stepMoves (level : LinkNo → Bool) (es : List TimerId) (s : State) :
    StepMoves s (es.foldl (State.fire level) s) := by
  induction es generalizing s with
  | nil => exact .refl
  | cons e es ih => exact (fire_stepMoves level s e).trans (ih _)

theorem clock_stepMoves (s : State) : StepMoves s s.clock := by
  unfold State.clock
  split
  · exact .refl
  · split
    · exact .single (.advance s)
    · exact .head (.advance s) (fire_stepMoves ..)
    · exact .head (.advance s) (.head (.choices _ _) (foldl_fire_stepMoves ..))

theorem step_of_queue (s : State) (c : Instr) (rest : List Instr) (h : s.pending = c :: rest) :
    step s = exec c { s with pending := rest } := by
  simp [step, h]

theorem step_of_empty (s : State) (h : s.pending = []) : step s = .next s.clock := by simp [step, h]

/-- What a step does is a chain of moves. -/
theorem step_stepMoves {s t : State} (h : step s = .next t) : StepMoves s t := by
  cases hq : s.pending with
  | nil =>
    rw [step_of_empty s hq] at h
    exact Host.Outcome.next.inj h ▸ clock_stepMoves s
  | cons c rest =>
    rw [step_of_queue s c rest hq] at h
    rw [eq_effect_of_exec h]
    exact .head (.queue s rest) (effect_moves c _).stepMoves

/-- A law that every move keeps is kept by every step. -/
theorem step_keeps {P : State → Prop} (hkeep : ∀ s t, StepMove s t → P s → P t) {s t : State} (hs : P s)
    (h : step s = .next t) : P t := keeps_of_chain hkeep (step_stepMoves h) hs

/-- Settles O1, by what a step makes of a queue that is not empty. -/
theorem stepRunsTheFrontCommand : Obligations.StepRunsTheFrontCommand := by
  unfold Obligations.StepRunsTheFrontCommand
  exact fun c rest s => step_of_queue { s with pending := c :: rest } c rest rfl

end Sys2Proof.Machine
end

section
/-! PROOFS. What the blocks of one link do: every tick, expiry, line event and completion of a link is a chain of updates of
its column and of events at its entries, and so leaves the port, the notice settings and the other links alone. -/

namespace Sys2Proof.Machine

/-! ## Acts of one link -/

/-- What an event makes of an entry stands in its place: the key, the position and a legal schedule stay, and the age stays
in its range (R1, R4, R9, R21). -/
structure Entry.KeepsPlace (e x : Entry) : Prop where
  key : x.key = e.key
  pos : x.pos = e.pos
  legal : scheduleLegal e.periodCode e.phase = true → scheduleLegal x.periodCode x.phase = true
  age : e.age ≤ 255 → x.age ≤ 255

theorem Entry.KeepsPlace.refl (e : Entry) : e.KeepsPlace e := ⟨rfl, rfl, id, id⟩

/-- One act of a link: an update of its column, an event at entries of its keys, or a use of a free value. -/
inductive LinkAct (l : LinkNo) : State → State → Prop
  | column (s : State) (f : Link → Link) : LinkAct l s (s.updLink l f)
  | event (s : State) (p : Entry → Bool) (f : Entry → Entry × List Reason) (own : ∀ e, p e = true → e.key.link = l)
      (keeps : ∀ e : Entry, e.KeepsPlace (f e).1) : LinkAct l s (s.entryEvent p f)
  | choices (s : State) (n : Nat) : LinkAct l s { s with choices := n }

/-- A chain of acts of one link. -/
abbrev LinkActs (l : LinkNo) : State → State → Prop := Relation.ReflTransGen (LinkAct l)

theorem LinkActs.column {l : LinkNo} {s t : State} (h : LinkActs l s t) (f : Link → Link) :
    LinkActs l s (t.updLink l f) := h.tail (.column t f)

theorem LinkActs.choices {l : LinkNo} {s t : State} (h : LinkActs l s t) (n : Nat) :
    LinkActs l s { t with choices := n } := h.tail (.choices t n)

theorem LinkActs.event {l : LinkNo} {s t : State} (h : LinkActs l s t) {p : Entry → Bool}
    {f : Entry → Entry × List Reason} (own : ∀ e, p e = true → e.key.link = l)
    (keeps : ∀ e : Entry, e.KeepsPlace (f e).1) : LinkActs l s (t.entryEvent p f) := h.tail (.event t p f own keeps)

theorem LinkActs.keyEvent {s t : State} {k : Key} (h : LinkActs k.link s t) {f : Entry → Entry × List Reason}
    (keeps : ∀ e : Entry, e.KeepsPlace (f e).1) : LinkActs k.link s (t.keyEvent k f) :=
  h.event (fun _ he => eq_of_beq he ▸ rfl) keeps

theorem LinkActs.ofStation {l : LinkNo} {s t : State} (h : LinkActs l s t) (st : StationNo)
    {f : Entry → Entry × List Reason} (keeps : ∀ e : Entry, e.KeepsPlace (f e).1) :
    LinkActs l s (t.entryEvent (Entry.ofStation l st) f) :=
  h.event (fun _ he => eq_of_beq (Bool.and_eq_true_iff.mp he).1) keeps

/-! ## The transitions of an entry keep its place -/

theorem onAck_keepsPlace (v : Value) (e : Entry) : e.KeepsPlace (e.onAck v).1 := by
  unfold Entry.onAck
  cases e.state
  case writing | orphaned => exact .refl e
  all_goals exact ⟨rfl, rfl, id, fun _ => Nat.zero_le 255⟩

theorem onRejected_keepsPlace (e : Entry) : e.KeepsPlace e.onRejected.1 := by
  unfold Entry.onRejected
  cases e.state <;> exact ⟨rfl, rfl, id, id⟩

theorem onFailedRead_keepsPlace (e : Entry) : e.KeepsPlace e.onFailedRead.1 := by
  unfold Entry.onFailedRead
  cases e.state <;> cases e.failing <;> exact ⟨rfl, rfl, id, id⟩

theorem onReadResult_keepsPlace (o : FinalOutcome) (e : Entry) : e.KeepsPlace (e.onReadResult o).1 := by
  cases o with
  | ack v => exact onAck_keepsPlace v e
  | rejected => exact onRejected_keepsPlace e
  | lost | corrupt | blocked => exact onFailedRead_keepsPlace e
  | heldOff _ | ok | unknown | sent => exact .refl e

theorem onEnqueue_keepsPlace (d : Value) (e : Entry) : e.KeepsPlace (e.onEnqueue d).1 := ⟨rfl, rfl, id, id⟩

theorem onWriteCompletion_keepsPlace (o : FinalOutcome) (e : Entry) : e.KeepsPlace (e.onWriteCompletion o).1 := by
  unfold Entry.onWriteCompletion
  split
  · exact .refl e
  · cases o <;> exact ⟨rfl, rfl, id, id⟩

theorem onSent_keepsPlace (e : Entry) : e.KeepsPlace e.onSent.1 := by
  unfold Entry.onSent
  cases e.state <;> exact ⟨rfl, rfl, id, id⟩

theorem onStationLost_keepsPlace (e : Entry) : e.KeepsPlace e.onStationLost.1 := ⟨rfl, rfl, id, id⟩

theorem onRevival_keepsPlace (e : Entry) : e.KeepsPlace e.onRevival.1 := by
  unfold Entry.onRevival
  cases e.state <;> exact ⟨rfl, rfl, id, id⟩

theorem onForget_keepsPlace (e : Entry) : e.KeepsPlace e.onForget.1 := by
  unfold Entry.onForget
  cases e.state <;> exact ⟨rfl, rfl, id, id⟩

theorem onLinkReset_keepsPlace (k : Option Key) (e : Entry) : e.KeepsPlace (e.onLinkReset k).1 := by
  unfold Entry.onLinkReset
  cases e.state <;> exact ⟨rfl, rfl, id, id⟩

theorem modified_keepsPlace {code : Fin 8} {phase : Fin 64} (mask : Value) (first : Bool)
    (legal : scheduleLegal code phase = true) (e : Entry) : e.KeepsPlace (e.modified code phase mask first) :=
  ⟨rfl, rfl, fun _ => legal, id⟩

theorem aged_keepsPlace (e : Entry) : e.KeepsPlace e.aged := ⟨rfl, rfl, id, fun _ => Nat.min_le_left _ _⟩

/-! ## The operations of a link are chains of acts -/

/-- A pick is an update of the column, or nothing. -/
theorem LinkActs.arbitrate {l : LinkNo} {s t : State} (h : LinkActs l s t) : LinkActs l s (t.arbitrate l) := by
  obtain ⟨-, hsame⟩ | ⟨-, -, -, hsame⟩ | ⟨g, -, -, -, -, hissue⟩ := arbitrate_cases t l
  · rwa [hsame]
  · rwa [hsame]
  · rw [hissue]; exact h.column _

theorem LinkActs.loseStation {l : LinkNo} {s t : State} (h : LinkActs l s t) (st : StationNo) :
    LinkActs l s (t.loseStation l st) :=
  (h.column _).ofStation st onStationLost_keepsPlace

theorem LinkActs.findStation {l : LinkNo} {s t : State} (h : LinkActs l s t) (st : StationNo)
    (q : Option (BitVec 8)) : LinkActs l s (t.findStation l st q) :=
  (h.column _).ofStation st onRevival_keepsPlace

theorem LinkActs.holdEffect {l : LinkNo} {s t : State} (h : LinkActs l s t) (st : StationNo) (q : BitVec 8) :
    LinkActs l s (t.holdEffect l st q) := by
  unfold State.holdEffect
  simp only
  split
  case h_5 => exact (h.column _).choices _
  all_goals exact h.column _

theorem LinkActs.applyStation {l : LinkNo} {s t : State} (h : LinkActs l s t) (st : StationNo) (probe : Bool)
    (eff : StationEffect) : LinkActs l s (t.applyStation l st probe eff) := by
  unfold State.applyStation
  cases eff with
  | none => exact h
  | reply =>
    simp only
    split
    · exact h.findStation st none
    · exact h.column _
  | hold q =>
    simp only
    split
    · exact h.findStation st (some q)
    · exact h.holdEffect st q
  | silence =>
    simp only
    split
    · exact h.loseStation st
    · exact h.column _

theorem LinkActs.applyTable {l : LinkNo} {s t : State} (h : LinkActs l s t) (tx : Transaction) (o : FinalOutcome) :
    LinkActs l s (t.applyTable l tx o) := by
  cases tx with
  | poll st reg | demandRead st reg => exact h.keyEvent (k := ⟨l, st, reg⟩) (onReadResult_keepsPlace o)
  | probe _ => exact h
  | write st reg _ => exact h.keyEvent (k := ⟨l, st, reg⟩) (onWriteCompletion_keepsPlace o)
  | broadcast reg _ =>
    simp only [State.applyTable]
    split
    · exact h.event (fun _ he => eq_of_beq (Bool.and_eq_true_iff.mp he).1) onSent_keepsPlace
    · exact h

theorem LinkActs.route {l : LinkNo} {s t : State} (h : LinkActs l s t) (tx : Transaction) (o : FinalOutcome)
    (c : AttemptClass) (stationFirst : Bool) : LinkActs l s (t.route l tx o c stationFirst) := by
  unfold State.route
  split
  · exact h.applyTable tx o
  · split
    · exact (h.applyStation _ _ _).applyTable tx o
    · exact (h.applyTable tx o).applyStation _ _ _

theorem LinkActs.routeFree {l : LinkNo} {s t : State} (h : LinkActs l s t) (tx : Transaction) (o : FinalOutcome)
    (c : AttemptClass) : LinkActs l s (t.routeFree l tx o c) := by
  unfold State.routeFree
  split
  · exact h.route tx o c false
  · split
    · exact (h.route tx o c _).choices _
    · exact h.route tx o c false

theorem LinkActs.afterCompletion {l : LinkNo} {s t : State} (h : LinkActs l s t) :
    LinkActs l s (t.afterCompletion l) := by
  unfold State.afterCompletion
  split
  · exact h.column _
  · split
    · exact h.column _
    · exact h.arbitrate

/-- A completion is a chain of acts of its link. -/
theorem complete_acts (s : State) (l : LinkNo) (tx : Transaction) (o : FinalOutcome) (c : AttemptClass) :
    LinkActs l s (s.complete l tx o c) :=
  ((LinkActs.column .refl _).routeFree tx o c).afterCompletion

theorem attemptEnd_acts (s : State) (l : LinkNo) (sld : List Bool) : LinkActs l s (s.attemptEnd l sld) := by
  obtain h | ⟨tx, -, -, c, -, ⟨-, -, h⟩ | h⟩ := attemptEnd_cases s l sld
  · rw [h]
  · rw [h]; exact .single (.column s _)
  · rw [h]; exact complete_acts ..

/-- The owners of a link tick by an update of its column and an event that ages its entries. -/
theorem tickOwners_eq_event (s : State) (l : LinkNo) :
    s.tickOwners l =
      (s.updLink l (fun k => { k.countedDown (s.overrunItems l).length with
        position := (k.countedDown (s.overrunItems l).length).position + 1
        slotTimer := (k.countedDown (s.overrunItems l).length).fullSlot
        batch := [] })).entryEvent (fun e => e.key.link == l) (fun e => (e.aged, [])) := by
  rw [entryEvent_silent _ _ _ (fun _ _ _ => rfl)]
  simp only [beq_iff_eq]
  rfl

theorem slotTick_acts (s : State) (l : LinkNo) : LinkActs l s (s.slotTick l) := by
  unfold State.slotTick
  split
  · rw [tickOwners_eq_event]
    exact (((LinkActs.column .refl _).event (fun _ => eq_of_beq) aged_keepsPlace).column _).arbitrate
  · exact .refl

theorem holdExpiry_acts (s : State) (l : LinkNo) (st : StationNo) : LinkActs l s (s.holdExpiry l st) := by
  unfold State.holdExpiry
  split
  · split
    · exact (LinkActs.column .refl _).arbitrate
    · exact .refl
  all_goals exact .refl

theorem demandExpiry_acts (s : State) (l : LinkNo) : LinkActs l s (s.demandExpiry l) := by
  unfold State.demandExpiry
  split
  · split
    · exact .single (.column s _)
    · exact .refl
  all_goals exact .refl

theorem restEnd_acts (s : State) (l : LinkNo) (which : Rest) : LinkActs l s (s.restEnd l which) := by
  unfold State.restEnd
  split
  · exact .single (.column s _)
  · exact .refl

theorem requestSentWhole_acts (s : State) (l : LinkNo) : LinkActs l s (s.requestSentWhole l) := by
  unfold State.requestSentWhole
  split
  · split
    · exact .single (.column s _)
    · exact .refl
  · exact .refl

theorem resetLink_acts (s : State) (l : LinkNo) : LinkActs l s (s.resetLink l) :=
  (LinkActs.column .refl _).event (fun _ => eq_of_beq) (onLinkReset_keepsPlace _)

/-- A write taken into the queue, before the access ends and the arbiter picks (R138, R139). -/
def State.enqueued (s : State) (l : LinkNo) (d : Dest) (reg : RegNo) (data : Value) : State :=
  let queued := s.updLink l (fun k => { k with queue := k.queue ++ [⟨d, reg, data, false⟩] })
  match d with
  | .station st => queued.keyEvent ⟨l, st, reg⟩ (Entry.onEnqueue data)
  | .broadcast => queued

theorem acceptWrite_eq (s : State) (l : LinkNo) (d : Dest) (reg : RegNo) (data : Value) :
    s.acceptWrite l d reg data = ((s.enqueued l d reg data).arbitrate l).answer .done none := by
  rw [← arbitrate_answer]
  cases d <;> rfl

theorem enqueued_acts (s : State) (l : LinkNo) (d : Dest) (reg : RegNo) (data : Value) :
    LinkActs l s (s.enqueued l d reg data) := by
  cases d with
  | station st => exact (LinkActs.column .refl _).keyEvent (k := ⟨l, st, reg⟩) (onEnqueue_keepsPlace data)
  | broadcast => exact .single (.column s fun k => { k with queue := k.queue ++ [⟨.broadcast, reg, data, false⟩] })

/-! ## What the acts of a link leave alone -/

/-- Two states with the same port, inputs and notice settings. -/
structure SamePort (s t : State) : Prop where
  pending : t.pending = s.pending
  sld : t.sld = s.sld
  rstLow : t.rstLow = s.rstLow
  hterm : t.hterm = s.hterm
  hdata : t.hdata = s.hdata
  command : t.command = s.command
  args : t.args = s.args
  results : t.results = s.results
  taken : t.taken = s.taken
  noticeEnable : t.noticeEnable = s.noticeEnable
  threshold : t.threshold = s.threshold
  linger : t.linger = s.linger

theorem SamePort.refl (s : State) : SamePort s s := ⟨rfl, rfl, rfl, rfl, rfl, rfl, rfl, rfl, rfl, rfl, rfl, rfl⟩

theorem SamePort.trans {s t u : State} (h : SamePort s t) (h' : SamePort t u) : SamePort s u :=
  ⟨h'.pending.trans h.pending, h'.sld.trans h.sld, h'.rstLow.trans h.rstLow, h'.hterm.trans h.hterm,
    h'.hdata.trans h.hdata, h'.command.trans h.command, h'.args.trans h.args, h'.results.trans h.results,
    h'.taken.trans h.taken, h'.noticeEnable.trans h.noticeEnable, h'.threshold.trans h.threshold,
    h'.linger.trans h.linger⟩

theorem LinkAct.samePort {l : LinkNo} {s t : State} (h : LinkAct l s t) : SamePort s t := by
  cases h with
  | column f => exact ⟨rfl, rfl, rfl, rfl, rfl, rfl, rfl, rfl, rfl, rfl, rfl, rfl⟩
  | event p f own keeps =>
    rw [entryEvent_frame]
    exact ⟨rfl, rfl, rfl, rfl, rfl, rfl, rfl, rfl, rfl, rfl, rfl, rfl⟩
  | choices n => exact ⟨rfl, rfl, rfl, rfl, rfl, rfl, rfl, rfl, rfl, rfl, rfl, rfl⟩

theorem LinkActs.samePort {l : LinkNo} {s t : State} (h : LinkActs l s t) : SamePort s t := by
  induction h with
  | refl => exact .refl s
  | tail _ hact ih => exact ih.trans hact.samePort

theorem LinkAct.link_ne {l m : LinkNo} {s t : State} (h : LinkAct l s t) (hm : m ≠ l) : t.link m = s.link m := by
  cases h with
  | column f => exact link_updLink_ne s f hm
  | event p f own keeps => exact entryEvent_link s p f m
  | choices n => rfl

/-- The acts of a link leave the columns of the others as they were. -/
theorem LinkActs.link_ne {l m : LinkNo} {s t : State} (h : LinkActs l s t) (hm : m ≠ l) : t.link m = s.link m := by
  induction h with
  | refl => rfl
  | tail _ hact ih => exact (hact.link_ne hm).trans ih

theorem LinkAct.mem_table {l : LinkNo} {s t : State} (h : LinkAct l s t) {e : Entry} (he : e.key.link ≠ l) :
    e ∈ t.table ↔ e ∈ s.table := by
  cases h with
  | column f => exact .rfl
  | choices n => exact .rfl
  | event p f own keeps =>
    rw [entryEvent_table, List.mem_map]
    constructor
    · rintro ⟨x, hx, rfl⟩
      split at he
      next hp => exact absurd (own x hp) ((keeps x).key ▸ he)
      next hp => rwa [if_neg hp]
    · intro hmem
      exact ⟨e, hmem, if_neg fun hp => he (own e hp)⟩

/-- The acts of a link leave the entries of the others as they were. -/
theorem LinkActs.mem_table {l : LinkNo} {s t : State} (h : LinkActs l s t) {e : Entry} (he : e.key.link ≠ l) :
    e ∈ t.table ↔ e ∈ s.table := by
  induction h with
  | refl => exact .rfl
  | tail _ hact ih => exact (hact.mem_table he).trans ih

/-- Settles O59: each of the rows is a chain of acts of its link. -/
theorem linksActOnTheirOwn : Obligations.LinksActOnTheirOwn := by
  unfold Obligations.LinksActOnTheirOwn
  intro c m l s t hml hc hexec
  have hacts : LinkActs m s t := by
    rw [eq_effect_of_exec hexec]
    rcases hc with rfl | ⟨st, rfl⟩ | rfl | rfl | rfl | ⟨sld, rfl⟩ | rfl
    · exact slotTick_acts s m
    · exact holdExpiry_acts s m st
    · exact demandExpiry_acts s m
    · exact restEnd_acts s m .gap
    · exact restEnd_acts s m .quiet
    · exact attemptEnd_acts s m sld
    · exact requestSentWhole_acts s m
  have hport := hacts.samePort
  exact ⟨hacts.link_ne (Ne.symm hml), fun e he => hacts.mem_table (he ▸ Ne.symm hml), hport.args, hport.results,
    hport.taken, hport.command, hport.hterm, hport.hdata⟩

/-! ## No command stops -/

theorem QuietMove.inputs {s t : State} (h : QuietMove s t) : t.pending = s.pending ∧ t.sld = s.sld := by
  cases h with
  | remove p => rw [removeEntries_eq_withoutKeys]; exact ⟨rfl, rfl⟩
  | take r rest _ => rw [oldestLost_eq]; exact ⟨rfl, rfl⟩
  | newLinger linger => rw [oldestLost_eq]; exact ⟨rfl, rfl⟩
  | pinHigh low => rw [State.pinHigh, if_pos low]; exact ⟨rfl, rfl⟩
  | slotTick l _ => exact ⟨(slotTick_acts s l).samePort.pending, (slotTick_acts s l).samePort.sld⟩
  | _ => simp [State.keyEvent, State.setStation, State.ranAfresh, State.recapture, State.resetLink, State.pinLow]

theorem Move.inputs {s t : State} (h : Move s t) : t.pending = s.pending ∧ t.sld = s.sld := by
  cases h with
  | quiet h => exact h.inputs
  | watch => simp
  | accept l d reg data _ _ _ =>
    have hport := (enqueued_acts s l d reg data).arbitrate.samePort
    rw [acceptWrite_eq]
    exact ⟨hport.pending, hport.sld⟩
  | complete l tx sld c _ _ _ =>
    have hport := (complete_acts s l tx (c.outcome tx) c).samePort
    exact ⟨hport.pending, hport.sld⟩

theorem Moves.inputs {s t : State} (h : Moves s t) : t.pending = s.pending ∧ t.sld = s.sld :=
  keeps_of_chain (P := fun u => u.pending = s.pending ∧ u.sld = s.sld)
    (fun _ _ hmove hu => ⟨hmove.inputs.1.trans hu.1, hmove.inputs.2.trans hu.2⟩) h ⟨rfl, rfl⟩

/-- Settles O4: every command has an effect, a chain of moves none of which touches the inputs, and a step on an empty
queue is a REFCLK period. -/
theorem noCommandStops : Obligations.NoCommandStops := by
  unfold Obligations.NoCommandStops
  refine ⟨fun c s => ⟨effect c s, exec_eq_effect c s, (effect_moves c s).inputs⟩, fun s => ?_⟩
  cases hq : s.pending with
  | nil => exact ⟨_, step_of_empty s hq⟩
  | cons c rest => exact ⟨_, (step_of_queue s c rest hq).trans (exec_eq_effect c _)⟩

end Sys2Proof.Machine
end

section
/-! PROOFS. The watch table, the change list and the notice unit stay sound (01, 03). -/

namespace Sys2Proof.Machine

/-! ## Entries changed in place -/

/-- A table of which each entry keeps its place stays sound. -/
theorem State.TableSound.map {s : State} (hs : s.TableSound) {g : Entry → Entry} (hg : ∀ e : Entry, e.KeepsPlace (g e)) :
    ({ s with table := s.table.map g } : State).TableSound := by
  obtain ⟨hpos, hkey, hentry⟩ := hs
  refine ⟨List.pairwise_map.mpr ?_, List.pairwise_map.mpr ?_, fun x hx => ?_⟩
  · simpa only [(hg _).pos] using hpos
  · simpa only [(hg _).key] using hkey
  · obtain ⟨e, he, rfl⟩ := List.mem_map.mp hx
    obtain ⟨hbucket, hlegal, hage⟩ := hentry e he
    exact ⟨by rw [(hg e).pos, (hg e).key, hbucket], (hg e).legal hlegal, (hg e).age hage⟩

/-- Entries that keep their keys are found under the same keys. -/
theorem find_map_isSome (s : State) {g : Entry → Entry} (hg : ∀ e, (g e).key = e.key) (k : Key) :
    (({ s with table := s.table.map g } : State).find k).isSome = (s.find k).isSome := by
  simp [State.find, List.find?_map, hg]

theorem State.ListSound.map {s : State} (hs : s.ListSound) {g : Entry → Entry} (hg : ∀ e, (g e).key = e.key) :
    ({ s with table := s.table.map g } : State).ListSound := by
  obtain ⟨hkey, hrecord⟩ := hs
  exact ⟨hkey, fun r hr => ⟨(find_map_isSome s hg r.key).trans (hrecord r hr).1, (hrecord r hr).2⟩⟩

/-! ## Listings -/

theorem reasonSet_ne_zero {rs : List Reason} (h : rs ≠ []) : reasonSet rs ≠ 0#8 := by
  obtain ⟨r, rest, rfl⟩ := List.exists_cons_of_ne_nil h
  intro hzero
  have hbit := getLsbD_reasonSet (r :: rest) r
  rw [hzero] at hbit
  simp at hbit

/-- What a listing asks of a record that it makes or joins: a reason, and a count of 1 to 15 (R51). -/
abbrev ChangeRecord.Sound (r : ChangeRecord) : Prop := r.reasons ≠ 0#8 ∧ 1 ≤ r.count ∧ r.count ≤ 15

theorem join_sound {r : ChangeRecord} (hr : r.Sound) (rs : List Reason) : (r.join rs).Sound := by
  obtain ⟨hreasons, hmin, -⟩ := hr
  refine ⟨fun hzero => hreasons ?_, ?_, Nat.min_le_left _ _⟩
  · exact (BitVec.or_eq_zero_iff.mp hzero).1
  · have hcount : (r.join rs).count = min 15 (r.count + rs.length) := rfl
    omega

theorem newRecord_sound {rs : List Reason} (h : rs ≠ []) (k : Key) (old : Value) :
    (⟨k, reasonSet rs, old, countUp 0 rs.length⟩ : ChangeRecord).Sound := by
  have hlength := List.length_pos_iff.mpr h
  have hcount : countUp 0 rs.length = min 15 (0 + rs.length) := rfl
  exact ⟨reasonSet_ne_zero h, by simp only; omega, Nat.min_le_left _ _⟩

/-- A listing of a watched key with a reason keeps the list sound. -/
theorem State.ListSound.listing {s : State} (hs : s.ListSound) {k : Key} {rs : List Reason} (old : Value)
    (hk : (s.find k).isSome = true) (hrs : rs ≠ []) : (s.listing k rs old).ListSound := by
  obtain ⟨hkey, hrecord⟩ := hs
  cases h : s.listed k with
  | true =>
    rw [listing_listed s h]
    have hsame : ∀ r : ChangeRecord, (if r.key = k then r.join rs else r).key = r.key := fun r => by split <;> rfl
    refine ⟨List.pairwise_map.mpr (by simpa only [hsame] using hkey), fun x hx => ?_⟩
    obtain ⟨r, hr, rfl⟩ := List.mem_map.mp hx
    obtain ⟨hfind, hsound⟩ := hrecord r hr
    refine ⟨by rw [hsame]; exact hfind, ?_⟩
    split
    · exact join_sound hsound rs
    · exact hsound
  | false =>
    rw [listing_unlisted s h]
    refine ⟨List.pairwise_append.mpr ⟨hkey, List.pairwise_singleton _ _, fun a ha b hb => ?_⟩, fun x hx => ?_⟩
    · rw [List.mem_singleton.mp hb]
      exact (listed_eq_false_iff s k).mp h a ha
    · obtain hx | hx := List.mem_append.mp hx
      · exact hrecord x hx
      · rw [List.mem_singleton.mp hx]
        exact ⟨hk, newRecord_sound hrs k old⟩

/-! ## The notice unit -/

/-- The linger timer that a new oldest record starts, or stops with linger off, is sound (R61). -/
theorem noticeSound_of_started {s : State} (hthreshold : s.threshold ≠ 0#8) (hlingered : s.lingered = false)
    (htimer : s.lingerTimer = if s.list = [] ∨ s.linger = 0#8 then none else some ⟨s.linger.toNat, 0⟩) :
    s.NoticeSound := by
  refine ⟨hthreshold, fun hl => ⟨by simp [htimer, hl], hlingered⟩, fun t ht => ?_⟩
  rw [htimer] at ht
  split at ht
  next => cases ht
  next hon =>
    obtain rfl := Option.some.inj ht
    have hne : s.linger.toNat ≠ 0 := fun h => hon (.inr (BitVec.eq_of_toNat_eq h))
    exact ⟨hlingered, by simp only; omega, Nat.le_refl _⟩

theorem oldestLost_noticeSound {s : State} (hthreshold : s.threshold ≠ 0#8) : s.oldestLost.NoticeSound := by
  rw [oldestLost_eq]
  exact noticeSound_of_started hthreshold rfl rfl

theorem State.NoticeSound.listing {s : State} (hs : s.NoticeSound) (k : Key) (rs : List Reason) (old : Value) :
    (s.listing k rs old).NoticeSound := by
  cases h : s.listed k with
  | true =>
    rw [listing_listed s h]
    obtain ⟨hthreshold, hempty, hruns⟩ := hs
    exact ⟨hthreshold, fun hl => hempty (List.map_eq_nil_iff.mp hl), hruns⟩
  | false =>
    rw [listing_unlisted s h]
    by_cases hl : s.list = []
    · exact noticeSound_of_started hs.1 (by simp [hl]) (by simp [hl])
    · obtain ⟨hthreshold, -, hruns⟩ := hs
      exact ⟨hthreshold, fun h => by simp at h, by simpa [hl] using hruns⟩

/-! ## Events at the table -/

theorem State.MirrorSound.listing {s : State} (hs : s.MirrorSound) {k : Key} {rs : List Reason} (old : Value)
    (hk : (s.find k).isSome = true) (hrs : rs ≠ []) : (s.listing k rs old).MirrorSound := by
  obtain ⟨htable, hlist, hnotice⟩ := hs
  refine ⟨?_, hlist.listing old hk hrs, hnotice.listing k rs old⟩
  rw [listing_frame]
  exact htable

/-- An event whose transition keeps each entry in its place keeps table, list and notice unit sound. -/
theorem State.MirrorSound.entryEvent {s : State} (hs : s.MirrorSound) (p : Entry → Bool)
    {f : Entry → Entry × List Reason} (hf : ∀ e : Entry, e.KeepsPlace (f e).1) : (s.entryEvent p f).MirrorSound := by
  have hplace : ∀ e : Entry, e.KeepsPlace (if p e then (f e).1 else e) := fun e => by
    split
    · exact hf e
    · exact .refl e
  have hlistings : ∀ (es : List Entry) (t : State), t.MirrorSound → (∀ e ∈ es, (t.find e.key).isSome = true) →
      (es.foldl (fun t e => if (f e).2.isEmpty then t else t.listing e.key (f e).2 e.value) t).MirrorSound := by
    intro es
    induction es with
    | nil => exact fun _ ht _ => ht
    | cons e es ih =>
      intro t ht hfind
      refine ih _ ?_ fun x hx => ?_
      · beta_reduce
        split
        next => exact ht
        next hrs => exact ht.listing _ (hfind e List.mem_cons_self) (by simpa using hrs)
      · have hx := hfind x (List.mem_cons_of_mem e hx)
        beta_reduce
        split
        · exact hx
        · rw [listing_frame]; exact hx
  obtain ⟨htable, hlist, hnotice⟩ := hs
  refine hlistings _ _ ⟨htable.map hplace, hlist.map fun e => (hplace e).key, hnotice⟩ fun e he => ?_
  rw [find_map_isSome s fun e => (hplace e).key, find_isSome_iff]
  exact ⟨e, (List.mem_filter.mp he).1, rfl⟩

theorem LinkAct.mirrorSound {l : LinkNo} {s t : State} (h : LinkAct l s t) (hs : s.MirrorSound) : t.MirrorSound := by
  cases h with
  | column f => exact hs
  | event p f own keeps => exact hs.entryEvent p keeps
  | choices n => exact hs

theorem LinkActs.mirrorSound {l : LinkNo} {s t : State} (h : LinkActs l s t) (hs : s.MirrorSound) : t.MirrorSound :=
  keeps_of_chain (R := LinkAct l) (P := State.MirrorSound) (fun _ _ hact => hact.mirrorSound) h hs

/-! ## Entries that come and go -/

@[simp] theorem mem_insertEntry (e x : Entry) (es : List Entry) : x ∈ insertEntry e es ↔ x = e ∨ x ∈ es := by
  induction es with
  | nil => simp [insertEntry]
  | cons y ys ih =>
    unfold insertEntry
    split
    · simp
    · simp only [List.mem_cons, ih]; tauto

/-- An entry put in its place keeps the positions ascending, if its own is free. -/
theorem insertEntry_pos_pairwise {e : Entry} {es : List Entry} (hes : es.Pairwise (fun a b => a.pos < b.pos))
    (hfree : ∀ x ∈ es, x.pos ≠ e.pos) : (insertEntry e es).Pairwise (fun a b => a.pos < b.pos) := by
  induction es with
  | nil => exact List.pairwise_singleton _ _
  | cons y ys ih =>
    obtain ⟨hhead, htail⟩ := List.pairwise_cons.mp hes
    unfold insertEntry
    split
    next hlt =>
      refine List.pairwise_cons.mpr ⟨fun x hx => ?_, hes⟩
      obtain rfl | hx := List.mem_cons.mp hx
      · exact hlt
      · exact hlt.trans (hhead x hx)
    next hge =>
      have hne := hfree y List.mem_cons_self
      refine List.pairwise_cons.mpr ⟨fun x hx => ?_, ih htail fun x hx => hfree x (List.mem_cons_of_mem y hx)⟩
      obtain rfl | hx := (mem_insertEntry e x ys).mp hx
      · omega
      · exact hhead x hx

theorem insertEntry_key_pairwise {e : Entry} {es : List Entry} (hes : es.Pairwise (fun a b => a.key ≠ b.key))
    (hnew : ∀ x ∈ es, x.key ≠ e.key) : (insertEntry e es).Pairwise (fun a b => a.key ≠ b.key) := by
  induction es with
  | nil => exact List.pairwise_singleton _ _
  | cons y ys ih =>
    obtain ⟨hhead, htail⟩ := List.pairwise_cons.mp hes
    unfold insertEntry
    split
    next => exact List.pairwise_cons.mpr ⟨fun x hx => (hnew x hx).symm, hes⟩
    next =>
      refine List.pairwise_cons.mpr ⟨fun x hx => ?_, ih htail fun x hx => hnew x (List.mem_cons_of_mem y hx)⟩
      obtain rfl | hx := (mem_insertEntry e x ys).mp hx
      · exact hnew y List.mem_cons_self
      · exact hhead x hx

/-- The way found is one of four, it is free, and the ways below it are not (R4). -/
theorem freeWay_eq_some_iff (s : State) (b w : Nat) :
    s.freeWay b = some w ↔
      w < 4 ∧ (∀ e ∈ s.table, e.pos ≠ b * 4 + w) ∧ ∀ v, v < w → ∃ e ∈ s.table, e.pos = b * 4 + v := by
  simp only [State.freeWay, List.find?_range_eq_some, positionOf]
  simp
  tauto

/-- A fresh key in a free way of its bucket joins the table (R1, R4, R9). -/
theorem State.TableSound.insert {s : State} (hs : s.TableSound) {e : Entry} {w : Nat}
    (hnew : s.find e.key = none) (hw : s.freeWay e.key.bucket = some w) (hpos : e.pos = positionOf e.key.bucket w)
    (hlegal : scheduleLegal e.periodCode e.phase = true) (hage : e.age ≤ 255) :
    ({ s with table := insertEntry e s.table } : State).TableSound := by
  obtain ⟨hlt, hfree, -⟩ := (freeWay_eq_some_iff s _ w).mp hw
  obtain ⟨hposs, hkeys, hentry⟩ := hs
  refine ⟨insertEntry_pos_pairwise hposs fun x hx => ?_,
    insertEntry_key_pairwise hkeys ((find_eq_none_iff s e.key).mp hnew), fun x hx => ?_⟩
  · rw [hpos]
    exact hfree x hx
  · obtain rfl | hx := (mem_insertEntry e x s.table).mp hx
    · refine ⟨?_, hlegal, hage⟩
      rw [hpos, positionOf]
      omega
    · exact hentry x hx

theorem State.MirrorSound.insert {s : State} (hs : s.MirrorSound) {e : Entry} {w : Nat}
    (hnew : s.find e.key = none) (hw : s.freeWay e.key.bucket = some w) (hpos : e.pos = positionOf e.key.bucket w)
    (hlegal : scheduleLegal e.periodCode e.phase = true) (hage : e.age ≤ 255) :
    ({ s with table := insertEntry e s.table } : State).MirrorSound := by
  obtain ⟨htable, ⟨hkey, hrecord⟩, hnotice⟩ := hs
  refine ⟨htable.insert hnew hw hpos hlegal hage, ⟨hkey, fun r hr => ⟨?_, (hrecord r hr).2⟩⟩, hnotice⟩
  obtain ⟨x, hx, hxk⟩ := (find_isSome_iff s r.key).mp (hrecord r hr).1
  exact (find_isSome_iff _ r.key).mpr ⟨x, (mem_insertEntry e x s.table).mpr (.inr hx), hxk⟩

/-- Entries and their records leave together (R12, R19, R55). -/
theorem State.MirrorSound.removeEntries {s : State} (hs : s.MirrorSound) (p : Key → Bool) :
    (s.removeEntries p).MirrorSound := by
  obtain ⟨⟨hpos, hkeys, hentry⟩, ⟨hkey, hrecord⟩, hnotice⟩ := hs
  rw [removeEntries_eq_withoutKeys]
  refine ⟨⟨hpos.filter _, hkeys.filter _, fun e he => hentry e (List.mem_filter.mp he).1⟩,
    ⟨hkey.filter _, fun r hr => ?_⟩, ?_⟩
  · obtain ⟨hr, hp⟩ := List.mem_filter.mp hr
    obtain ⟨hfind, hsound⟩ := hrecord r hr
    obtain ⟨e, he, hek⟩ := (find_isSome_iff s r.key).mp hfind
    exact ⟨(find_isSome_iff _ r.key).mpr ⟨e, List.mem_filter.mpr ⟨he, by rw [hek]; exact hp⟩, hek⟩, hsound⟩
  · cases hgone : s.list.head?.any (fun r => p r.key) with
    | true =>
      exact noticeSound_of_started hnotice.1 (by simp [State.withoutKeys, hgone])
        (by simp [State.withoutKeys, hgone, lingerStart])
    | false =>
      obtain ⟨hthreshold, hempty, hruns⟩ := hnotice
      refine ⟨hthreshold, fun hl => ?_, by simpa [State.withoutKeys, hgone] using hruns⟩
      have hl' : s.list = [] := by
        cases hlist : s.list with
        | nil => rfl
        | cons r rest =>
          have hstays : p r.key = false := by simpa [hlist] using hgone
          simp [State.withoutKeys, hlist, hstays] at hl
      simpa [State.withoutKeys, hgone] using hempty hl'

/-! ## Every move -/

theorem State.MirrorSound.arbitrate {s : State} (hs : s.MirrorSound) (l : LinkNo) : (s.arbitrate l).MirrorSound :=
  (LinkActs.arbitrate (l := l) .refl).mirrorSound hs

theorem pinLow_mirrorSound (s : State) : s.pinLow.MirrorSound := by
  refine ⟨⟨.nil, .nil, nofun⟩, ⟨.nil, nofun⟩, ?_⟩
  exact noticeSound_of_started (by decide : (1#8 : BitVec 8) ≠ 0#8) rfl rfl

theorem QuietMove.mirrorSound {s t : State} (h : QuietMove s t) (hs : s.MirrorSound) : t.MirrorSound := by
  cases h with
  | remove p => exact hs.removeEntries p
  | modify k code phase mask first legal =>
    exact (hs.entryEvent _ (f := fun x => (x.modified code phase mask first, []))
      (modified_keepsPlace mask first legal)).arbitrate k.link
  | release l st held => exact State.MirrorSound.arbitrate (s := s.updLink l _) hs l
  | forget l st missing =>
    exact (State.MirrorSound.entryEvent (s := s.setStation l st _) hs _ onForget_keepsPlace).arbitrate l
  | runAfresh l high idle => exact State.MirrorSound.arbitrate (s := s.ranAfresh l) hs l
  | resetLink l => exact (resetLink_acts s l).mirrorSound hs
  | demand key running heeded empty => exact State.MirrorSound.arbitrate (s := s.updLink _ _) hs key.link
  | take r rest oldest =>
    obtain ⟨htable, ⟨hkey, hrecord⟩, hnotice⟩ := hs
    rw [oldest] at hkey
    have hrest : ({ s with list := rest } : State).ListSound :=
      ⟨(List.pairwise_cons.mp hkey).2, fun x hx => hrecord x (oldest ▸ List.mem_cons_of_mem r hx)⟩
    have hsound := oldestLost_noticeSound (s := { s with list := rest }) hnotice.1
    rw [oldestLost_eq] at hsound ⊢
    exact ⟨htable, hrest, hsound⟩
  | newLinger linger =>
    obtain ⟨htable, hlist, hnotice⟩ := hs
    have hsound := oldestLost_noticeSound (s := { s with linger := linger }) hnotice.1
    rw [oldestLost_eq] at hsound ⊢
    exact ⟨htable, hlist, hsound⟩
  | noticeSettings enable threshold range =>
    obtain ⟨htable, hlist, hnotice⟩ := hs
    exact ⟨htable, hlist, range, hnotice.2⟩
  | pinLow => exact pinLow_mirrorSound s
  | pinHigh low => rw [State.pinHigh, if_pos low]; exact hs
  | slotTick l running => exact (slotTick_acts s l).mirrorSound hs
  | holdExpiry l st held => exact State.MirrorSound.arbitrate (s := s.updLink l _) hs l
  | lingerExpiry timer runs =>
    obtain ⟨htable, hlist, hthreshold, hempty, -⟩ := hs
    have hlisted : s.list ≠ [] := fun hl => by simp [(hempty hl).1] at runs
    exact ⟨htable, hlist, hthreshold, fun hl => absurd hl hlisted, nofun⟩
  | port | hold | runOn | stop | configure | setSlot | setPosition | deliver | events | demandExpiry | rested
  | retryGap | requestSent => exact hs

theorem Move.mirrorSound {s t : State} (h : Move s t) (hs : s.MirrorSound) : t.MirrorSound := by
  cases h with
  | quiet h => exact h.mirrorSound hs
  | watch k w code phase mask first legal unwatched free =>
    exact (hs.insert (e := s.newEntry k _ code phase mask first) unwatched free rfl legal
      (Nat.zero_le 255)).arbitrate k.link
  | accept l d reg data _ _ _ =>
    rw [acceptWrite_eq]
    exact (enqueued_acts s l d reg data).arbitrate.mirrorSound hs
  | complete l tx sld c _ _ _ => exact (complete_acts s l tx _ c).mirrorSound hs

/-- A running linger timer stays within its setting in a REFCLK period. -/
theorem advanceTimers_mirrorSound {s : State} (hs : s.MirrorSound) : s.advanceTimers.MirrorSound := by
  obtain ⟨htable, hlist, hthreshold, hempty, hruns⟩ := hs
  refine ⟨htable, hlist, hthreshold, fun hl => ?_, fun t ht => ?_⟩
  · obtain ⟨htimer, hlingered⟩ := hempty hl
    exact ⟨by simp [State.advanceTimers, htimer], hlingered⟩
  · cases htimer : s.lingerTimer with
    | none => simp [State.advanceTimers, htimer] at ht
    | some m =>
      obtain ⟨hlingered, hmin, hmax⟩ := hruns m htimer
      have hmax : m.left ≤ s.advanceTimers.linger.toNat := hmax
      obtain rfl : (if m.last Config.lingerUnit then m else m.advance Config.lingerUnit) = t := by
        simpa [State.advanceTimers, htimer] using ht
      refine ⟨hlingered, ?_⟩
      split
      next => exact ⟨hmin, hmax⟩
      next hlast =>
        simp only [Timer.last, Bool.and_eq_true, decide_eq_true_eq] at hlast
        unfold Timer.advance
        split <;> constructor <;> simp only <;> omega

theorem StepMove.mirrorSound {s t : State} (h : StepMove s t) (hs : s.MirrorSound) : t.MirrorSound := by
  cases h with
  | move h => exact h.mirrorSound hs
  | advance => exact advanceTimers_mirrorSound hs
  | queue | choices | openWindow | lengthen => exact hs

/-- Settles O53: every move of a step keeps the laws. -/
theorem stepKeepsTheMirror : Obligations.StepKeepsTheMirror := by
  unfold Obligations.StepKeepsTheMirror
  exact fun s t hs h => step_keeps (P := State.MirrorSound) (fun _ _ hmove => hmove.mirrorSound) hs h

end Sys2Proof.Machine
end

section
/-! PROOFS. Station records, write queues and demand slots stay sound (05, 07, 08, 09). -/

namespace Sys2Proof.Machine

/-! ## Station records -/

theorem onReply_sound {r : StationRecord} (h : r.Sound) : r.onReply.Sound := by
  obtain ⟨standing, misses, seen⟩ := r
  obtain ⟨-, h⟩ := h
  refine ⟨Nat.zero_le 15, ?_⟩
  match standing with
  | .unseen | .present => rfl
  | .missing => trivial
  | .held ⟨.station, some n⟩ => exact ⟨rfl, h.2⟩
  | .held ⟨.station, none⟩ => exact h
  | .held ⟨.host, some n⟩ => exact h
  | .held ⟨.host, none⟩ => trivial

theorem onSilence_sound {r : StationRecord} (h : r.Sound) : r.onSilence.Sound := ⟨Nat.min_le_left _ _, h.2⟩

theorem afterHold_sound {r : StationRecord} (h : r.Sound) : r.afterHold.Sound := by
  refine ⟨h.1, ?_⟩
  cases hseen : r.seen <;> simp [StationRecord.afterHold, hseen]

theorem reset_sound : StationRecord.reset.Sound := ⟨Nat.zero_le 15, rfl⟩

/-- A hold of the host in its range, over whatever the record was (R132). -/
theorem hostHeld_sound {r : StationRecord} (h : r.Sound) {n : Option Nat} (hn : ∀ m, n = some m → 1 ≤ m ∧ m ≤ 65535) :
    ({ r with standing := .held ⟨.host, n⟩ } : StationRecord).Sound := by
  refine ⟨h.1, ?_⟩
  cases n with
  | none => trivial
  | some m => exact hn m rfl

/-- A hold of the station in its range, of a station that has just replied (R126). -/
theorem stationHeld_sound {n : Nat} (hmin : 1 ≤ n) (hmax : n ≤ 65535) :
    (⟨.held ⟨.station, some n⟩, 0, true⟩ : StationRecord).Sound := ⟨Nat.zero_le 15, rfl, hmin, hmax⟩

theorem tick_sound {r : StationRecord} (h : r.Sound) : r.tick.Sound := by
  unfold StationRecord.tick
  split
  next source n hstanding =>
    split
    · exact afterHold_sound h
    · obtain ⟨hmisses, hrange⟩ := h
      rw [hstanding] at hrange
      refine ⟨hmisses, ?_⟩
      cases source with
      | station => exact ⟨hrange.1, by omega, by omega⟩
      | host => exact ⟨by omega, by omega⟩
  all_goals exact h

theorem isMissing_iff (r : StationRecord) : r.isMissing = true ↔ r.standing = .missing := by
  simp [StationRecord.isMissing]

theorem isHeld_iff (r : StationRecord) : r.isHeld = true ↔ ∃ h, r.standing = .held h := by
  unfold StationRecord.isHeld
  split <;> simp_all

/-- A station is left alone when it is HELD or MISSING (R75, R79), and otherwise it is UNSEEN or PRESENT. -/
theorem leftAlone_eq_false_iff (r : StationRecord) :
    r.leftAlone = false ↔ r.standing = .unseen ∨ r.standing = .present := by
  unfold StationRecord.leftAlone StationRecord.isHeld StationRecord.isMissing
  cases r.standing <;> simp

theorem leftAlone_eq_false_iff' (r : StationRecord) : r.leftAlone = false ↔ r.isHeld = false ∧ r.isMissing = false := by
  simp [StationRecord.leftAlone]

@[simp] theorem afterHold_isHeld (r : StationRecord) : r.afterHold.isHeld = false := by
  unfold StationRecord.afterHold StationRecord.isHeld
  cases r.seen <;> rfl

@[simp] theorem afterHold_isMissing (r : StationRecord) : r.afterHold.isMissing = false := by
  unfold StationRecord.afterHold StationRecord.isMissing
  cases r.seen <;> rfl

@[simp] theorem afterHold_leftAlone (r : StationRecord) : r.afterHold.leftAlone = false := by
  simp [StationRecord.leftAlone]

@[simp] theorem onReply_isMissing (r : StationRecord) : r.onReply.isMissing = r.isMissing := by
  obtain ⟨standing, misses, seen⟩ := r
  cases standing <;> rfl

@[simp] theorem onReply_leftAlone (r : StationRecord) : r.onReply.leftAlone = r.leftAlone := by
  obtain ⟨standing, misses, seen⟩ := r
  cases standing <;> rfl

@[simp] theorem onSilence_leftAlone (r : StationRecord) : r.onSilence.leftAlone = r.leftAlone := rfl

@[simp] theorem onSilence_isMissing (r : StationRecord) : r.onSilence.isMissing = r.isMissing := rfl

/-- A tick leaves a record as it is, lowers its hold, or ends the hold (R131). -/
theorem tick_cases (r : StationRecord) :
    r.tick = r ∨ (∃ source n, r.standing = .held ⟨source, some n⟩ ∧
      r.tick = { r with standing := .held ⟨source, some (n - 1)⟩ }) ∨ (r.isHeld = true ∧ r.tick = r.afterHold) := by
  unfold StationRecord.tick
  split
  next source n hstanding =>
    split
    · exact .inr (.inr ⟨(isHeld_iff r).mpr ⟨_, hstanding⟩, rfl⟩)
    · exact .inr (.inl ⟨source, n, hstanding, rfl⟩)
  all_goals exact .inl rfl

@[simp] theorem tick_isMissing (r : StationRecord) : r.tick.isMissing = r.isMissing := by
  obtain h | ⟨source, n, hstanding, h⟩ | ⟨hheld, h⟩ := tick_cases r
  · rw [h]
  · rw [h]; simp [StationRecord.isMissing, hstanding]
  · obtain ⟨hold, hstanding⟩ := (isHeld_iff r).mp hheld
    rw [h, afterHold_isMissing]; simp [StationRecord.isMissing, hstanding]

/-- A hold left after a tick has the source of the hold before. -/
theorem tick_source {r : StationRecord} {h : Hold} (ht : r.tick.standing = .held h) :
    ∃ h', r.standing = .held h' ∧ h'.source = h.source := by
  obtain hsame | ⟨source, n, hstanding, hlower⟩ | ⟨-, hend⟩ := tick_cases r
  · exact ⟨h, hsame ▸ ht, rfl⟩
  · rw [hlower] at ht
    obtain rfl := Standing.held.inj ht
    exact ⟨⟨source, some n⟩, hstanding, rfl⟩
  · have hnot := (isHeld_iff r.afterHold).mpr ⟨h, hend ▸ ht⟩
    simp at hnot

theorem tick_leftAlone_of_false {r : StationRecord} (h : r.leftAlone = false) : r.tick.leftAlone = false := by
  obtain hsame | ⟨_, _, hstanding, -⟩ | ⟨-, hend⟩ := tick_cases r
  · rw [hsame]; exact h
  · simp [leftAlone_eq_false_iff, hstanding] at h
  · simp [hend]

/-! ## Demand requests that fail or go -/

/-- Failing a request touches the demand slot alone. -/
theorem failDemand_frame (k : Link) (st : StationNo) :
    k.failDemand st = { k with demand := (k.failDemand st).demand } := by
  unfold Link.failDemand
  split
  · split <;> rfl
  · rfl

theorem dropWaiting_frame (k : Link) : k.dropWaiting = { k with demand := k.dropWaiting.demand } := by
  unfold Link.dropWaiting
  split <;> rfl

/-- A failed slot waits for no such station; a slot that is not WAITING stays. -/
theorem failDemand_demand (k : Link) (st : StationNo) :
    (k.failDemand st).demand = k.demand.failedFor st := by
  unfold Link.failDemand DemandSlot.failedFor
  cases hd : k.demand with
  | waiting key => by_cases hst : key.station = st <;> simp [hd, hst, Config.demandLifetime]
  | _ => simp [hd]

theorem dropWaiting_demand (k : Link) : k.dropWaiting.demand = k.demand.dropped := by
  unfold Link.dropWaiting DemandSlot.dropped
  cases h : k.demand <;> simp [h]

theorem failedFor_eq_waiting_iff (d : DemandSlot) (st : StationNo) (key : Key) :
    d.failedFor st = .waiting key ↔ d = .waiting key ∧ key.station ≠ st := by
  cases d with
  | waiting k =>
    simp only [DemandSlot.failedFor]
    split
    next hst => exact ⟨nofun, fun ⟨hk, hne⟩ => absurd (DemandSlot.waiting.inj hk ▸ hst) hne⟩
    next hne => exact ⟨fun hk => ⟨hk, DemandSlot.waiting.inj hk ▸ hne⟩, And.left⟩
  | _ => simp [DemandSlot.failedFor]

@[simp] theorem failedFor_eq_inFlight_iff (d : DemandSlot) (st : StationNo) (key : Key) :
    d.failedFor st = .inFlight key ↔ d = .inFlight key := by
  cases d with
  | waiting k => simp only [DemandSlot.failedFor]; split <;> simp
  | _ => simp [DemandSlot.failedFor]

/-- A failed slot is READY from before, or with the failure it takes (R158). -/
theorem failedFor_eq_ready {d : DemandSlot} {st : StationNo} {key : Key} {v : Option Value} {n : Nat}
    (h : d.failedFor st = .ready key v n) :
    d = .ready key v n ∨ (d = .waiting key ∧ v = none ∧ n = Config.demandLifetime) := by
  cases d with
  | waiting k =>
    simp only [DemandSlot.failedFor] at h
    split at h
    · obtain ⟨rfl, rfl, rfl⟩ := DemandSlot.ready.inj h
      exact .inr ⟨rfl, rfl, rfl⟩
    · cases h
  | ready k w m => exact .inl h
  | _ => cases h

theorem failDemand_setStation (k : Link) (st : StationNo) (r : StationRecord) :
    (k.setStation st r).failDemand st = (k.failDemand st).setStation st r := by
  rw [failDemand_frame, failDemand_frame k, failDemand_demand, failDemand_demand]
  rfl

/-! ## The column of a link, part by part -/

theorem Link.DemandSound.failDemand {k : Link} {l : LinkNo} (h : k.DemandSound l) (st : StationNo) :
    (k.failDemand st).DemandSound l := by
  obtain ⟨hwaiting, hflight, hread, hready⟩ := h
  rw [failDemand_frame, failDemand_demand]
  refine ⟨fun key hk => hwaiting key ((failedFor_eq_waiting_iff _ _ _).mp hk).1,
    fun key hk => hflight key ((failedFor_eq_inFlight_iff _ _ _).mp hk),
    fun x reg hx => (failedFor_eq_inFlight_iff _ _ _).mpr (hread x reg hx), fun key v n hk => ?_⟩
  obtain hbefore | ⟨hwait, rfl, rfl⟩ := failedFor_eq_ready hk
  · exact hready key v n hbefore
  · exact ⟨(hwaiting key hwait).1, by decide, Nat.le_refl _⟩

theorem Link.DemandSound.setStation {k : Link} {l : LinkNo} (h : k.DemandSound l) {st : StationNo} {r : StationRecord}
    (hr : r.leftAlone = true → ∀ key, k.demand = .waiting key → key.station ≠ st) :
    (k.setStation st r).DemandSound l := by
  obtain ⟨hwaiting, hrest⟩ := h
  refine ⟨fun key hk => ?_, hrest⟩
  obtain ⟨hlink, hstate, halone⟩ := hwaiting key hk
  refine ⟨hlink, hstate, ?_⟩
  rw [station_setStation]
  split
  next hst => exact Bool.eq_false_iff.mpr fun hr' => hr hr' key hk hst
  next => exact halone

theorem Link.QueueSound.setStation {k : Link} (h : k.QueueSound) {st : StationNo} {r : StationRecord}
    (hr : r.isMissing = true → ∀ w ∈ k.queue, w.dest ≠ .station st) : (k.setStation st r).QueueSound := by
  obtain ⟨hlength, hmissing, hrest⟩ := h
  refine ⟨hlength, fun w hw x hx => ?_, hrest⟩
  rw [station_setStation]
  split
  next hst => exact Bool.eq_false_iff.mpr fun hr' => hr hr' w hw (hst ▸ hx)
  next => exact hmissing w hw x hx

/-- With no transaction in flight no record of the queue is marked (R141). -/
theorem Link.QueueSound.unmarked {k : Link} (h : k.QueueSound) (hf : k.inFlight = none) :
    ∀ w ∈ k.queue, w.inFlight = false := by
  obtain ⟨-, -, -, hmark, -⟩ := h
  intro w hw
  refine Bool.eq_false_iff.mpr fun hflight => ?_
  simpa [hf] using hmark w hw hflight

/-- A queue of fewer or other records, none marked and none for a MISSING station, with no transaction in flight. -/
theorem queueSound_of_unmarked {k : Link} (hlength : k.queue.length ≤ Config.queueCapacity)
    (hmissing : ∀ w ∈ k.queue, ∀ st, w.dest = .station st → (k.station st).isMissing = false)
    (hmark : ∀ w ∈ k.queue, w.inFlight = false) (hf : k.inFlight = none) : k.QueueSound :=
  ⟨hlength, hmissing, fun w hw => hmark w (List.mem_of_mem_tail hw),
    fun w hw h => by simp [hmark w hw] at h, fun w h => by simp [hf] at h⟩

theorem addressSound_of_none {k : Link} (hf : k.inFlight = none) : k.AddressSound :=
  fun tx st h => by simp [hf] at h

/-- The record of a station replaced by a sound one: what its new standing asks of the queue, the demand slot and the
transaction in flight. -/
theorem Link.ColumnSound.setStation {k : Link} {l : LinkNo} (h : k.ColumnSound l) {st : StationNo}
    {r : StationRecord} (hr : r.Sound)
    (hqueue : r.isMissing = true → k.state ≠ .off ∧ ∀ w ∈ k.queue, w.dest ≠ .station st)
    (hdemand : r.leftAlone = true → ∀ key, k.demand = .waiting key → key.station ≠ st)
    (haddress : ∀ tx, k.inFlight = some tx → tx.station? = some st →
      (r.isMissing = true → tx.isProbe = true) ∧ ∀ h, r.standing = .held h → h.source = .host) :
    (k.setStation st r).ColumnSound l := by
  obtain ⟨hrecords, hq, hd, ha, hidle, hoff⟩ := h
  refine ⟨fun x => ?_, hq.setStation fun hm => (hqueue hm).2, hd.setStation hdemand, fun tx x htx hx => ?_, hidle,
    fun hstate => ⟨(hoff hstate).1, fun x => ?_⟩⟩
  · rw [station_setStation]
    split
    · exact hr
    · exact hrecords x
  · rw [station_setStation]
    split
    next hst => exact haddress tx htx (hst ▸ hx)
    next => exact ha tx x htx hx
  · rw [station_setStation]
    split
    next => exact Bool.eq_false_iff.mpr fun hm => (hqueue hm).1 hstate
    next => exact (hoff hstate).2 x

theorem Link.ColumnSound.failDemand {k : Link} {l : LinkNo} (h : k.ColumnSound l) (st : StationNo) :
    (k.failDemand st).ColumnSound l := by
  obtain ⟨hrecords, hq, hd, ha, hidle, hoff⟩ := h
  have hd := hd.failDemand st
  rw [failDemand_frame] at hd ⊢
  exact ⟨hrecords, hq, hd, ha, hidle, hoff⟩

/-- A failed slot no longer waits for the station. -/
theorem failDemand_not_waiting (k : Link) (st : StationNo) :
    ∀ key, (k.failDemand st).demand = .waiting key → key.station ≠ st := fun key hk => by
  rw [failDemand_demand] at hk
  exact ((failedFor_eq_waiting_iff _ _ _).mp hk).2

/-- A record becomes HELD, and a WAITING request for its station has failed (R131, R158). -/
theorem Link.ColumnSound.enterHeld {k : Link} {l : LinkNo} (h : k.ColumnSound l) {st : StationNo} {r : StationRecord}
    {hold : Hold} (hr : ({ r with standing := .held hold } : StationRecord).Sound)
    (haddress : k.inFlight = none ∨ hold.source = .host) : (k.enterHeld st r hold).ColumnSound l := by
  rw [Link.enterHeld, failDemand_setStation]
  refine (h.failDemand st).setStation hr (fun hm => by simp [StationRecord.isMissing] at hm)
    (fun _ => failDemand_not_waiting k st) fun tx htx _ => ?_
  rw [failDemand_frame] at htx
  refine ⟨fun hm => by simp [StationRecord.isMissing] at hm, fun x hx => ?_⟩
  obtain hnone | hhost := haddress
  · simp [hnone] at htx
  · exact Standing.held.inj hx ▸ hhost

/-- With no transaction in flight the queue can lose records. -/
theorem Link.ColumnSound.filterQueue {k : Link} {l : LinkNo} (h : k.ColumnSound l) (hf : k.inFlight = none)
    (p : WriteRecord → Bool) : ({ k with queue := k.queue.filter p } : Link).ColumnSound l := by
  obtain ⟨hrecords, hq, hd, ha, hidle, hoff⟩ := h
  have hmem : ∀ w ∈ k.queue.filter p, w ∈ k.queue := fun w hw => (List.mem_filter.mp hw).1
  refine ⟨hrecords, queueSound_of_unmarked ?_ (fun w hw => hq.2.1 w (hmem w hw))
    (fun w hw => hq.unmarked hf w (hmem w hw)) hf, hd, ha, hidle, fun hstate => ⟨?_, (hoff hstate).2⟩⟩
  · exact (List.length_filter_le _ _).trans hq.1
  · simp [(hoff hstate).1]

/-- A link that is not OFF, or has become so with nothing waiting, is sound where its column was. -/
theorem Link.ColumnSound.dropWaiting {k : Link} {l : LinkNo} (h : k.ColumnSound l) {x : LinkState} (hx : x ≠ .off)
    (hflight : x = .halted → k.inFlight = none) :
    ({ k with state := x, demand := k.demand.dropped } : Link).ColumnSound l := by
  obtain ⟨hrecords, hq, ⟨-, hinFlight, hread, hready⟩, ha, -, -⟩ := h
  refine ⟨hrecords, hq, ⟨fun key hk => ?_, fun key hk => hinFlight key ?_, fun st reg hk => ?_,
    fun key v n hk => hready key v n ?_⟩, ha, fun hstate => ?_, fun hstate => absurd hstate hx⟩
  · revert hk; cases k.demand <;> simp [DemandSlot.dropped]
  · revert hk; cases k.demand <;> simp [DemandSlot.dropped]
  · simp [DemandSlot.dropped, hread st reg hk]
  · revert hk; cases k.demand <;> simp [DemandSlot.dropped]
  · exact hflight (hstate.resolve_left hx)

theorem Link.ColumnSound.enterHalted {k : Link} {l : LinkNo} (h : k.ColumnSound l) (hf : k.inFlight = none)
    (why : HaltReason) : (k.enterHalted why).ColumnSound l := by
  have hdropped := h.dropWaiting (x := .halted) nofun fun _ => hf
  rw [Link.enterHalted, dropWaiting_frame, dropWaiting_demand]
  exact hdropped

theorem Link.ColumnSound.enterStopping {k : Link} {l : LinkNo} (h : k.ColumnSound l) :
    k.enterStopping.ColumnSound l := by
  have hdropped := h.dropWaiting (x := .stopping) nofun nofun
  rw [Link.enterStopping, dropWaiting_frame, dropWaiting_demand]
  exact hdropped

/-- A link that becomes RUNNING is sound where its column was. -/
theorem Link.ColumnSound.run {k : Link} {l : LinkNo} (h : k.ColumnSound l) :
    ({ k with state := .running } : Link).ColumnSound l := by
  obtain ⟨hrecords, hq, ⟨hwaiting, hrest⟩, ha, -, -⟩ := h
  refine ⟨hrecords, hq, ⟨fun key hk => ?_, hrest⟩, ha, nofun, nofun⟩
  obtain ⟨hlink, -, halone⟩ := hwaiting key hk
  exact ⟨hlink, rfl, halone⟩

theorem station_map_tick (k : Link) (st : StationNo) :
    ({ k with stations := k.stations.map StationRecord.tick } : Link).station st = (k.station st).tick := by
  simp [Link.station]

/-- The holds of a link count down (R131). -/
theorem Link.ColumnSound.holdTick {k : Link} {l : LinkNo} (h : k.ColumnSound l) : k.holdTick.ColumnSound l := by
  obtain ⟨hrecords, ⟨hlength, hmissing, hmark⟩, ⟨hwaiting, hdemand⟩, ha, hidle, hoff⟩ := h
  have hstation : ∀ st, k.holdTick.station st = (k.station st).tick := station_map_tick k
  refine ⟨fun st => ?_, ⟨hlength, fun w hw st hst => ?_, hmark⟩, ⟨fun key hk => ?_, hdemand⟩, fun tx st htx hst => ?_,
    hidle, fun hstate => ⟨(hoff hstate).1, fun st => ?_⟩⟩
  · rw [hstation]; exact tick_sound (hrecords st)
  · rw [hstation, tick_isMissing]; exact hmissing w hw st hst
  · obtain ⟨hlink, hstate, halone⟩ := hwaiting key hk
    exact ⟨hlink, hstate, by rw [hstation]; exact tick_leftAlone_of_false halone⟩
  · rw [hstation, tick_isMissing]
    obtain ⟨hprobe, hhost⟩ := ha tx st htx hst
    refine ⟨hprobe, fun x hx => ?_⟩
    obtain ⟨y, hy, hsource⟩ := tick_source hx
    exact hsource ▸ hhost y hy
  · rw [hstation, tick_isMissing]; exact (hoff hstate).2 st

/-- The lifetime of a READY result counts down (R159). -/
theorem Link.ColumnSound.demandTick {k : Link} {l : LinkNo} (h : k.ColumnSound l) : k.demandTick.ColumnSound l := by
  unfold Link.demandTick
  split
  next key result n hready =>
    obtain ⟨hrecords, hq, ⟨-, -, hread, hlife⟩, ha, hidle, hoff⟩ := h
    have hnoRead : ∀ st reg, k.inFlight ≠ some (.demandRead st reg) := fun st reg hf => by
      simp [hread st reg hf] at hready
    obtain ⟨hlink, hmin, hmax⟩ := hlife key result n hready
    split
    next =>
      exact ⟨hrecords, hq, ⟨nofun, nofun, fun st reg hf => absurd hf (hnoRead st reg), nofun⟩, ha, hidle, hoff⟩
    next hmore =>
      refine ⟨hrecords, hq, ⟨nofun, nofun, fun st reg hf => absurd hf (hnoRead st reg), fun x v m hx => ?_⟩, ha, hidle,
        hoff⟩
      obtain ⟨rfl, rfl, rfl⟩ := DemandSlot.ready.inj hx
      exact ⟨hlink, by omega, by omega⟩
  all_goals exact h

theorem Link.ColumnSound.countedDown {k : Link} {l : LinkNo} (h : k.ColumnSound l) (n : Nat) :
    (k.countedDown n).ColumnSound l := by
  have hoverrun : (k.overrun n).ColumnSound l := by
    unfold Link.overrun
    split <;> exact h
  exact hoverrun.holdTick.demandTick

/-- The slot becomes EMPTY once its result has been taken (R157). -/
theorem Link.ColumnSound.emptySlot {k : Link} {l : LinkNo} (h : k.ColumnSound l)
    (hslot : ∀ key, k.demand ≠ .inFlight key) : ({ k with demand := .empty } : Link).ColumnSound l := by
  obtain ⟨hrecords, hq, ⟨-, -, hread, -⟩, ha, hidle, hoff⟩ := h
  exact ⟨hrecords, hq, ⟨nofun, nofun, fun st reg hf => absurd (hread st reg hf) (hslot _), nofun⟩, ha, hidle, hoff⟩

/-- An EMPTY slot takes a request for a station that is not left alone (R155). -/
theorem Link.ColumnSound.fillSlot {k : Link} {key : Key} (h : k.ColumnSound key.link) (hempty : k.demand = .empty)
    (hrunning : k.state = .running) (hheeded : (k.station key.station).leftAlone = false) :
    ({ k with demand := .waiting key } : Link).ColumnSound key.link := by
  obtain ⟨hrecords, hq, ⟨-, -, hread, -⟩, ha, hidle, hoff⟩ := h
  refine ⟨hrecords, hq, ⟨fun x hx => ?_, nofun, fun st reg hf => ?_, nofun⟩, ha, hidle, hoff⟩
  · obtain rfl := DemandSlot.waiting.inj hx
    exact ⟨rfl, hrunning, hheeded⟩
  · simp [hread st reg hf] at hempty

/-- A record joins the tail of a queue with room (R138). -/
theorem Link.ColumnSound.enqueue {k : Link} {l : LinkNo} (h : k.ColumnSound l) {d : Dest} (reg : RegNo) (data : Value)
    (hon : k.state ≠ .off) (hfound : ∀ st, d = .station st → (k.station st).isMissing = false)
    (hroom : k.queue.length < Config.queueCapacity) :
    ({ k with queue := k.queue ++ [⟨d, reg, data, false⟩] } : Link).ColumnSound l := by
  obtain ⟨hrecords, ⟨hlength, hmissing, htail, hmark, hhead⟩, hd, ha, hidle, -⟩ := h
  refine ⟨hrecords, ⟨?_, fun w hw st hst => ?_, fun w hw => ?_, fun w hw hf => ?_, fun w hw => ?_⟩, hd, ha, hidle,
    fun hstate => absurd hstate hon⟩
  · simpa using hroom
  · obtain hw | hw := List.mem_append.mp hw
    · exact hmissing w hw st hst
    · obtain rfl := List.mem_singleton.mp hw
      exact hfound st hst
  · cases hq : k.queue with
    | nil => simp [hq] at hw
    | cons r rest =>
      rw [hq] at hw htail
      obtain hw | hw := List.mem_append.mp hw
      · exact htail w hw
      · obtain rfl := List.mem_singleton.mp hw
        rfl
  · obtain hw | hw := List.mem_append.mp hw
    · exact hmark w hw hf
    · obtain rfl := List.mem_singleton.mp hw
      cases hf
  · rw [List.head?_append, hhead w hw]
    rfl

/-! ## Issue -/

theorem Link.ColumnSound.issueWrite {k : Link} {l : LinkNo} (h : k.ColumnSound l) (hf : k.inFlight = none)
    (hstate : k.state = .running) (he : k.writeEligible = true) : k.issueWrite.ColumnSound l := by
  obtain ⟨hrecords, hq, ⟨hwaiting, hinFlight, -, hready⟩, -, -, -⟩ := h
  have hmark := hq.unmarked hf
  obtain ⟨hlength, hmissing, -⟩ := hq
  unfold Link.issueWrite
  cases hqueue : k.queue with
  | nil => simp [Link.writeEligible, hqueue] at he
  | cons r rest =>
    rw [hqueue] at hlength hmissing hmark
    have hrecord : (some r.transaction).bind Transaction.record? = some { r with inFlight := true } := by
      obtain ⟨d, reg, data, flag⟩ := r
      cases d <;> rfl
    refine ⟨hrecords, ⟨hlength, fun w hw st hst => ?_, fun w hw => hmark w (List.mem_cons_of_mem r hw),
      fun w hw hflag => ?_, fun w hw => ?_⟩, ⟨hwaiting, fun key hk => ?_, fun st reg hk => ?_, hready⟩,
      fun tx st htx hst => ?_, fun hidle => ?_, fun hoff => ?_⟩
    · obtain rfl | hw := List.mem_cons.mp hw
      · exact hmissing r List.mem_cons_self st hst
      · exact hmissing w (List.mem_cons_of_mem r hw) st hst
    · obtain rfl | hw := List.mem_cons.mp hw
      · exact hrecord
      · simp [hmark w (List.mem_cons_of_mem r hw)] at hflag
    · exact hrecord.symm.trans hw
    · simpa [hf] using (hinFlight key hk).2
    · obtain ⟨d, r2, data, flag⟩ := r
      cases d <;> simp [Link.start, WriteRecord.transaction] at hk
    · obtain rfl := Option.some.inj htx
      obtain ⟨d, reg, data, flag⟩ := r
      cases d with
      | broadcast => simp [WriteRecord.transaction, Transaction.station?] at hst
      | station x =>
        obtain rfl : x = st := by simpa [WriteRecord.transaction, Transaction.station?] using hst
        have hnotHeld : (k.station x).isHeld = false := by simpa [Link.writeEligible, hqueue] using he
        have hnotMissing := hmissing _ List.mem_cons_self x rfl
        refine ⟨fun hm => ?_, fun hold hhold => ?_⟩
        · exact absurd hm (Bool.eq_false_iff.mp hnotMissing)
        · exact absurd ((isHeld_iff _).mpr ⟨hold, hhold⟩) (Bool.eq_false_iff.mp hnotHeld)
    · simp [Link.start, hstate] at hidle
    · simp [Link.start, hstate] at hoff

/-- A read goes out: the queue and its marks stand as they are. -/
theorem queueSound_of_read {k : Link} (h : k.QueueSound) (hf : k.inFlight = none) {g : Group} {tx : Transaction}
    (htx : tx.record? = none) : (k.start g tx).QueueSound := by
  have hmark := h.unmarked hf
  obtain ⟨hlength, hmissing, htail, -, -⟩ := h
  refine ⟨hlength, hmissing, htail, fun w hw hflag => ?_, fun w hw => ?_⟩
  · have := hmark w hw
    rw [this] at hflag
    cases hflag
  · have hrecord : tx.record? = some w := hw
    simp [htx] at hrecord

theorem Link.ColumnSound.issueDemand {k : Link} {l : LinkNo} (h : k.ColumnSound l) (hf : k.inFlight = none)
    (hstate : k.state = .running) : k.issueDemand.ColumnSound l := by
  unfold Link.issueDemand
  split
  next key hwait =>
    obtain ⟨hrecords, hq, ⟨hwaiting, -, -, -⟩, -, -, -⟩ := h
    obtain ⟨rfl, -, halone⟩ := hwaiting key hwait
    have hheeded := (leftAlone_eq_false_iff _).mp halone
    refine ⟨hrecords, queueSound_of_read (k := { k with demand := .inFlight key }) hq hf rfl, ⟨nofun, fun x hx => ?_,
      fun st reg hx => ?_, nofun⟩, fun tx st htx hst => ?_, fun hidle => ?_, fun hoff => ?_⟩
    · obtain rfl := DemandSlot.inFlight.inj hx
      exact ⟨rfl, rfl⟩
    · obtain ⟨rfl, rfl⟩ := Transaction.demandRead.inj (Option.some.inj hx)
      rfl
    · obtain rfl := Option.some.inj htx
      obtain rfl : key.station = st := by simpa [Transaction.station?] using hst
      refine ⟨fun hm => ?_, fun hold hhold => ?_⟩
      · have := (isMissing_iff _).mp hm
        simp_all [Link.start, Link.station]
      · simp_all [Link.start, Link.station]
    · simp [Link.start, hstate] at hidle
    · simp [Link.start, hstate] at hoff
  all_goals exact h

/-- What an item must be to be drawn: a poll of a station that is not left alone, or a probe of a MISSING one (R79). -/
def BatchItem.Addressable (k : Link) : BatchItem → Prop
  | .poll key => (k.station key.station).leftAlone = false
  | .probe st => (k.station st).isMissing = true

theorem addressable_of_passes {s : State} {l : LinkNo} {held : List StationNo} {i : BatchItem}
    (h : s.passes l held i = true) : i.Addressable (s.link l) := by
  cases i with
  | poll key =>
    simp only [State.passes] at h
    split at h
    · simp only [Bool.and_eq_true, Bool.not_eq_true'] at h
      exact h.1.2
    · cases h
  | probe st => exact h

/-- A draw leaves the column as it was, or sends the first item that passes (R78). -/
theorem issuePoll_cases (k : Link) (passes : BatchItem → Bool) :
    k.issuePoll passes = k ∨ ∃ i rest, passes i = true ∧ i ∈ k.batch ∧ (∀ x ∈ rest, x ∈ k.batch) ∧
      k.issuePoll passes = { k with batch := rest }.start .poll i.transaction := by
  unfold Link.issuePoll
  split
  next => exact .inl rfl
  next i rest hdrop =>
    have hsuffix : i :: rest <:+ k.batch := hdrop ▸ List.dropWhile_suffix _
    refine .inr ⟨i, rest, ?_, hsuffix.subset List.mem_cons_self,
      fun x hx => hsuffix.subset (List.mem_cons_of_mem i hx), rfl⟩
    have hhead := List.head_dropWhile_not (fun i => !passes i) (l := k.batch) (by simp [hdrop])
    simpa [hdrop] using hhead

theorem Link.ColumnSound.issuePoll {k : Link} {l : LinkNo} (h : k.ColumnSound l) (hf : k.inFlight = none)
    (hstate : k.state = .running) {passes : BatchItem → Bool} (hpass : ∀ i, passes i = true → i.Addressable k) :
    (k.issuePoll passes).ColumnSound l := by
  obtain hsame | ⟨i, rest, hi, -, -, hissue⟩ := issuePoll_cases k passes
  · rwa [hsame]
  · rw [hissue]
    have hgood := hpass i hi
    obtain ⟨hrecords, hq, ⟨hwaiting, hinFlight, -, hready⟩, -, -, -⟩ := h
    refine ⟨hrecords, queueSound_of_read (k := { k with batch := rest }) hq hf (by cases i <;> rfl),
      ⟨hwaiting, fun key hk => ?_, fun st reg hk => ?_, hready⟩, fun tx st htx hst => ?_, fun hidle => ?_,
      fun hoff => ?_⟩
    · simpa [hf] using (hinFlight key hk).2
    · have hread := Option.some.inj hk
      cases i <;> cases hread
    · obtain rfl := Option.some.inj htx
      cases i with
      | poll key =>
        obtain rfl : key.station = st := by simpa [BatchItem.transaction, Transaction.station?] using hst
        obtain ⟨hheld, hmissing⟩ := (leftAlone_eq_false_iff' _).mp hgood
        exact ⟨fun hm => absurd hm (Bool.eq_false_iff.mp hmissing),
          fun hold hhold => absurd ((isHeld_iff _).mpr ⟨hold, hhold⟩) (Bool.eq_false_iff.mp hheld)⟩
      | probe x =>
        obtain rfl : x = st := by simpa [BatchItem.transaction, Transaction.station?] using hst
        refine ⟨fun _ => rfl, fun hold hhold => ?_⟩
        have hstanding : (k.station x).standing = .held hold := hhold
        have hmissing := (isMissing_iff _).mp hgood
        simp [hmissing] at hstanding
    · simp [Link.start, hstate] at hidle
    · simp [Link.start, hstate] at hoff

theorem State.ColumnSound.updLink {s : State} (hs : s.ColumnSound) {l : LinkNo} {f : Link → Link}
    (hf : (f (s.link l)).ColumnSound l) : (s.updLink l f).ColumnSound := by
  intro m
  rw [link_updLink]
  split
  next hm => exact hm ▸ hf
  next => exact hs m

/-- A pick leaves every column sound (R98, R99). -/
theorem State.ColumnSound.arbitrate {s : State} (hs : s.ColumnSound) (l : LinkNo) : (s.arbitrate l).ColumnSound := by
  obtain ⟨-, h⟩ | ⟨-, -, -, h⟩ | ⟨g, hstate, hf, -, he, h⟩ := arbitrate_cases s l
  · rwa [h]
  · rwa [h]
  · rw [h]
    refine hs.updLink ?_
    cases g with
    | write => exact (hs l).issueWrite hf hstate he
    | demand => exact (hs l).issueDemand hf hstate
    | poll => exact (hs l).issuePoll hf hstate fun i hi => addressable_of_passes hi

/-! ## Completion -/

/-- The write queue at a completion: the record in flight is gone, or kept unmarked on HELD_OFF (R142, R143, R144). -/
def settledQueue (tx : Transaction) (o : FinalOutcome) (queue : List WriteRecord) : List WriteRecord :=
  if tx.isRead then queue
  else
    match o with
    | .heldOff _ => queue.map (fun r => { r with inFlight := false })
    | _ => queue.eraseP (fun r => r.inFlight)

/-- The demand slot at a completion: READY where its read has completed (R156). -/
def DemandSlot.settled (d : DemandSlot) (tx : Transaction) (o : FinalOutcome) : DemandSlot :=
  match tx, d with
  | .demandRead _ _, .inFlight key => .ready key (match o with | .ack v => some v | _ => none) 16
  | _, d => d

/-- The write-fault record at a completion (R148). -/
def WriteFault.settled (f : WriteFault) (tx : Transaction) (o : FinalOutcome) : WriteFault :=
  match tx, o.faultOutcome with
  | .write st reg d, some x => ⟨.station st, reg, d, x⟩
  | .broadcast reg d, some x => ⟨.broadcast, reg, d, x⟩
  | _, _ => f

/-- The link events at a completion: WRITE_FAULT with a write-fault record (R148). -/
def settledEvents (tx : Transaction) (o : FinalOutcome) (events : BitVec 6) : BitVec 6 :=
  if tx.isRead = true ∨ o.faultOutcome = none then events else events ||| 0x10#6

theorem settleQueue_eq (k : Link) (tx : Transaction) (o : FinalOutcome) :
    k.settleQueue tx o = { k with queue := settledQueue tx o k.queue } := by
  cases tx with
  | write | broadcast => cases o <;> rfl
  | _ => rfl

theorem settleDemand_eq (k : Link) (tx : Transaction) (o : FinalOutcome) :
    k.settleDemand tx o = { k with demand := k.demand.settled tx o } := by
  cases tx with
  | demandRead =>
    unfold Link.settleDemand DemandSlot.settled
    cases hd : k.demand with
    | inFlight key => cases o <;> rfl
    | _ => simp [← hd]
  | _ => rfl

theorem settleFault_eq (k : Link) (tx : Transaction) (o : FinalOutcome) :
    k.settleFault tx o =
      { k with fault := k.fault.settled tx o, events := settledEvents tx o k.events } := by
  cases tx with
  | write | broadcast => cases o <;> rfl
  | _ => rfl

/-- The column of a link once its transaction has completed, the station table apart: queue, slot, fault record with its
event, blocked run, and the line free with the gap running (R102, R119). -/
theorem settle_eq (k : Link) (tx : Transaction) (o : FinalOutcome) :
    k.settle tx o =
      { k with
        queue := settledQueue tx o k.queue
        demand := k.demand.settled tx o
        fault := k.fault.settled tx o
        events := settledEvents tx o k.events
        blockedRun := if o = .blocked then min Config.lineFaultRun (k.blockedRun + 1) else 0
        inFlight := none
        line := k.line.completed } := by
  simp only [Link.settle, Link.settleRun, settleQueue_eq, settleDemand_eq, settleFault_eq]

/-- The transaction in flight is a write exactly with its record at the head of the queue (R141). -/
theorem Link.QueueSound.head_of_write {k : Link} (h : k.QueueSound) {tx : Transaction} (hf : k.inFlight = some tx)
    (hwrite : tx.isRead = false) :
    ∃ r rest, tx.record? = some r ∧ r.inFlight = true ∧ k.queue = r :: rest ∧ ∀ w ∈ rest, w.inFlight = false := by
  obtain ⟨-, -, htail, -, hhead⟩ := h
  obtain ⟨r, hr, hflag⟩ : ∃ r, tx.record? = some r ∧ r.inFlight = true := by
    cases tx with
    | write | broadcast => exact ⟨_, rfl, rfl⟩
    | _ => cases hwrite
  obtain ⟨rest, hqueue⟩ := List.head?_eq_some_iff.mp (hhead r (by simpa [hf] using hr))
  rw [hqueue] at htail
  exact ⟨r, rest, hr, hflag, hqueue, htail⟩

/-- With a read in flight no record of the queue is marked. -/
theorem Link.QueueSound.unmarked_of_read {k : Link} (h : k.QueueSound) {tx : Transaction} (hf : k.inFlight = some tx)
    (hread : tx.isRead = true) : ∀ w ∈ k.queue, w.inFlight = false := by
  obtain ⟨-, -, -, hmark, -⟩ := h
  refine fun w hw => Bool.eq_false_iff.mpr fun hflag => ?_
  have hrecord := hmark w hw hflag
  rw [hf] at hrecord
  cases tx with
  | write | broadcast => cases hread
  | _ => cases hrecord

/-- What is left of the queue was there, with no record marked. -/
theorem settledQueue_left {k : Link} (h : k.QueueSound) {tx : Transaction} (hf : k.inFlight = some tx)
    (o : FinalOutcome) :
    (settledQueue tx o k.queue).length ≤ k.queue.length ∧
      ∀ w ∈ settledQueue tx o k.queue, w.inFlight = false ∧ ∃ x ∈ k.queue, w.dest = x.dest := by
  unfold settledQueue
  split
  next hread => exact ⟨Nat.le_refl _, fun w hw => ⟨h.unmarked_of_read hf hread w hw, w, hw, rfl⟩⟩
  next hwrite =>
    obtain ⟨r, rest, -, hflag, hqueue, hrest⟩ := h.head_of_write hf (by simpa using hwrite)
    split
    · refine ⟨by simp, fun w hw => ?_⟩
      obtain ⟨x, hx, rfl⟩ := List.mem_map.mp hw
      exact ⟨rfl, x, hx, rfl⟩
    · rw [hqueue, List.eraseP_cons_of_pos hflag]
      exact ⟨by simp, fun w hw => ⟨hrest w hw, w, List.mem_cons_of_mem r hw, rfl⟩⟩

/-- The demand slot at a completion: READY where its read has completed, and untouched otherwise (R156). -/
theorem settled_demand_cases {k : Link} {l : LinkNo} (h : k.DemandSound l) {tx : Transaction}
    (hf : k.inFlight = some tx) (o : FinalOutcome) :
    k.demand.settled tx o = k.demand ∧ (∀ key, k.demand ≠ .inFlight key) ∨
      ∃ key v, key.link = l ∧ k.demand.settled tx o = .ready key v Config.demandLifetime := by
  obtain ⟨-, hinFlight, -, -⟩ := h
  cases hd : k.demand with
  | inFlight key =>
    obtain ⟨hlink, hkey⟩ := hinFlight key hd
    obtain rfl := Option.some.inj (hf.symm.trans hkey)
    exact .inr ⟨key, _, hlink, rfl⟩
  | _ => exact .inl ⟨by cases tx <;> rfl, nofun⟩

/-- The column of a link once its transaction is done with queue, slot, fault record and line (R102). -/
theorem Link.ColumnSound.settle {k : Link} {l : LinkNo} (h : k.ColumnSound l) {tx : Transaction}
    (hf : k.inFlight = some tx) (o : FinalOutcome) : (k.settle tx o).ColumnSound l := by
  obtain ⟨hrecords, hq, hd, -, hidle, -⟩ := h
  obtain ⟨hlength, hleft⟩ := settledQueue_left hq hf o
  have hslot := settled_demand_cases hd hf o
  have hon : ∀ x, x = LinkState.off ∨ x = LinkState.halted → k.state ≠ x := by
    rintro x hx rfl
    simp [hidle hx] at hf
  obtain ⟨hwaiting, -, -, hready⟩ := hd
  rw [settle_eq]
  refine ⟨hrecords, queueSound_of_unmarked (hlength.trans hq.1) (fun w hw st hst => ?_) (fun w hw => (hleft w hw).1) rfl,
    ⟨fun key hk => ?_, fun key hk => ?_, nofun, fun key v n hk => ?_⟩, addressSound_of_none rfl, fun _ => rfl,
    fun hoff => absurd hoff (hon .off (.inl rfl))⟩
  · obtain ⟨-, x, hx, hdest⟩ := hleft w hw
    exact hq.2.1 x hx st (hdest ▸ hst)
  · obtain ⟨hsame, -⟩ | ⟨x, v, -, hnew⟩ := hslot
    · exact hwaiting key (hsame ▸ hk)
    · simp [hnew] at hk
  · obtain ⟨hsame, hnot⟩ | ⟨x, v, -, hnew⟩ := hslot
    · exact absurd (hsame ▸ hk) (hnot key)
    · simp [hnew] at hk
  · obtain ⟨hsame, -⟩ | ⟨x, w, hlink, hnew⟩ := hslot
    · exact hready key v n (hsame ▸ hk)
    · obtain ⟨rfl, rfl, rfl⟩ := DemandSlot.ready.inj (hnew.symm.trans hk)
      exact ⟨hlink, by decide, Nat.le_refl _⟩

/-- What the routing of an outcome needs of the column and keeps: the column is sound, its link is not OFF and its line
free. -/
abbrev State.Freed (s : State) (l : LinkNo) : Prop :=
  s.ColumnSound ∧ (s.link l).inFlight = none ∧ (s.link l).state ≠ .off

theorem State.Freed.entryEvent {s : State} {l : LinkNo} (h : s.Freed l) (p : Entry → Bool)
    (f : Entry → Entry × List Reason) : (s.entryEvent p f).Freed l := by
  simpa only [State.Freed, State.ColumnSound, entryEvent_link] using h

theorem State.Freed.updLink {s : State} {l : LinkNo} (h : s.Freed l) {f : Link → Link}
    (hcolumn : (f (s.link l)).ColumnSound l) (hflight : (f (s.link l)).inFlight = (s.link l).inFlight)
    (hstate : (f (s.link l)).state = (s.link l).state) : (s.updLink l f).Freed l := by
  obtain ⟨hs, hf, hon⟩ := h
  exact ⟨hs.updLink hcolumn, by rw [link_updLink_same, hflight, hf], by rwa [link_updLink_same, hstate]⟩

theorem State.Freed.applyTable {s : State} {l : LinkNo} (h : s.Freed l) (tx : Transaction) (o : FinalOutcome) :
    (s.applyTable l tx o).Freed l := by
  cases tx with
  | poll | demandRead | write => exact h.entryEvent _ _
  | probe => exact h
  | broadcast =>
    simp only [State.applyTable]
    split
    · exact h.entryEvent _ _
    · exact h

/-- With the line free a record is replaced by a sound one that is MISSING or left alone only where the one before was. -/
theorem State.Freed.column_setStation {s : State} {l : LinkNo} (h : s.Freed l) {st : StationNo} {r : StationRecord}
    (hr : r.Sound) (hmissing : r.isMissing = true → (s.station l st).isMissing = true)
    (halone : r.leftAlone = true → (s.station l st).leftAlone = true) : ((s.link l).setStation st r).ColumnSound l := by
  obtain ⟨-, hq, ⟨hwaiting, -⟩, -⟩ := h.1 l
  refine (h.1 l).setStation hr (fun hm => ⟨h.2.2, fun w hw hd => ?_⟩) (fun ha key hk hst => ?_) fun tx htx => ?_
  · exact absurd (hmissing hm) (Bool.eq_false_iff.mp (hq.2.1 w hw st hd))
  · exact absurd (halone ha) (Bool.eq_false_iff.mp (hst ▸ (hwaiting key hk).2.2))
  · simp [h.2.1] at htx

theorem State.Freed.setStation {s : State} {l : LinkNo} (h : s.Freed l) {st : StationNo} {r : StationRecord}
    (hr : r.Sound) (hmissing : r.isMissing = true → (s.station l st).isMissing = true)
    (halone : r.leftAlone = true → (s.station l st).leftAlone = true) : (s.setStation l st r).Freed l :=
  h.updLink (h.column_setStation hr hmissing halone) rfl rfl

theorem raise_columnSound {k : Link} {l : LinkNo} (h : k.ColumnSound l) (e : LinkEvent) : (k.raise e).ColumnSound l := h

@[simp] theorem enterHeld_inFlight (k : Link) (st : StationNo) (r : StationRecord) (hold : Hold) :
    (k.enterHeld st r hold).inFlight = k.inFlight := by
  rw [Link.enterHeld, failDemand_frame]
  rfl

@[simp] theorem enterHeld_state (k : Link) (st : StationNo) (r : StationRecord) (hold : Hold) :
    (k.enterHeld st r hold).state = k.state := by
  rw [Link.enterHeld, failDemand_frame]
  rfl

theorem State.Freed.enterHeld {s : State} {l : LinkNo} (h : s.Freed l) {st : StationNo} {r : StationRecord}
    {hold : Hold} (hr : ({ r with standing := .held hold } : StationRecord).Sound) :
    (s.updLink l (fun k => k.enterHeld st r hold)).Freed l := by
  exact h.updLink ((h.1 l).enterHeld hr (.inl h.2.1)) (enterHeld_inFlight ..) (enterHeld_state ..)

theorem State.Freed.loseStation {s : State} {l : LinkNo} (h : s.Freed l) (st : StationNo) :
    (s.loseStation l st).Freed l := by
  refine State.Freed.entryEvent (h.updLink ?_ ?_ ?_) _ _
  · have hfiltered := ((h.1 l).filterQueue h.2.1 (fun r => r.dest != Dest.station st)).failDemand st
    have hlost : ({ ((s.link l).station st).onSilence with standing := .missing } : StationRecord).Sound :=
      ⟨Nat.min_le_left _ _, trivial⟩
    have hset := hfiltered.setStation (st := st) hlost (fun _ => ⟨?_, fun w hw => ?_⟩)
      (fun _ => failDemand_not_waiting _ st) (fun tx htx => ?_)
    · rw [← failDemand_setStation] at hset
      exact hset
    · rw [failDemand_frame]; exact h.2.2
    · rw [failDemand_frame] at hw
      simpa using (List.mem_filter.mp hw).2
    · rw [failDemand_frame] at htx
      simp [h.2.1] at htx
  · rw [failDemand_frame]; rfl
  · rw [failDemand_frame]; rfl

theorem State.Freed.findStation {s : State} {l : LinkNo} (h : s.Freed l) (st : StationNo) {q : Option (BitVec 8)}
    (hq : ∀ x, q = some x → x ≠ 0#8) : (s.findStation l st q).Freed l := by
  refine State.Freed.entryEvent ?_ _ _
  cases q with
  | none =>
    refine h.updLink (raise_columnSound ?_ _) rfl rfl
    exact h.column_setStation (r := ⟨.present, 0, true⟩) ⟨Nat.zero_le 15, rfl⟩ nofun nofun
  | some x =>
    have hne : x.toNat ≠ 0 := fun hx => hq x rfl (BitVec.eq_of_toNat_eq hx)
    have hlt := x.isLt
    refine h.updLink (raise_columnSound ?_ _) (enterHeld_inFlight ..) (enterHeld_state ..)
    exact (h.1 l).enterHeld (r := ⟨.present, 0, true⟩) (stationHeld_sound (by omega) (by omega)) (.inl h.2.1)

theorem State.Freed.holdEffect {s : State} {l : LinkNo} (h : s.Freed l) (st : StationNo) {q : BitVec 8}
    (hq : q ≠ 0#8) : (s.holdEffect l st q).Freed l := by
  have hne : q.toNat ≠ 0 := fun hx => hq (BitVec.eq_of_toNat_eq hx)
  have hlt := q.isLt
  have hsound : (s.station l st).Sound := (h.1 l).1 st
  have hmissing : (s.station l st).isMissing = true ↔ (s.station l st).standing = .missing := isMissing_iff _
  unfold State.holdEffect
  simp only
  split
  next => exact h.enterHeld (stationHeld_sound (by omega) (by omega))
  next => exact h.enterHeld (stationHeld_sound (by omega) (by omega))
  next n hstanding =>
    refine h.setStation ⟨Nat.zero_le 15, ?_⟩ id id
    obtain ⟨-, hrange⟩ := hsound
    rw [hstanding] at hrange ⊢
    cases n <;> exact hrange
  next hstanding =>
    refine h.setStation ⟨Nat.zero_le 15, ?_⟩ id id
    rw [hstanding]
    trivial
  next n hstanding =>
    have hbound := (Config.heldAgain s.choices).isLt
    refine h.setStation (r := ⟨.held ⟨.station, some _⟩, 0, true⟩) (stationHeld_sound (by omega) (by omega)) nofun ?_
    intro _
    simp [StationRecord.leftAlone, StationRecord.isHeld, hstanding]

theorem State.Freed.applyStation {s : State} {l : LinkNo} (h : s.Freed l) (st : StationNo) (probe : Bool)
    {eff : StationEffect} (heff : ∀ q, eff = .hold q → q ≠ 0#8) : (s.applyStation l st probe eff).Freed l := by
  have hsound : (s.station l st).Sound := (h.1 l).1 st
  unfold State.applyStation
  cases eff with
  | none => exact h
  | reply =>
    simp only
    split
    · exact h.findStation st nofun
    · exact h.setStation (onReply_sound hsound) (by simp) (by simp)
  | hold q =>
    simp only
    split
    · exact h.findStation st fun x hx => Option.some.inj hx ▸ heff q rfl
    · exact h.holdEffect st (heff q rfl)
  | silence =>
    simp only
    split
    · exact h.loseStation st
    · exact h.setStation (onSilence_sound hsound) (by simp) (by simp)

theorem State.Freed.route {s : State} {l : LinkNo} (h : s.Freed l) (tx : Transaction) {o : FinalOutcome}
    {c : AttemptClass} (heff : ∀ q, stationEffect o c = .hold q → q ≠ 0#8) (first : Bool) :
    (s.route l tx o c first).Freed l := by
  unfold State.route
  split
  · exact h.applyTable tx o
  · split
    · exact (h.applyStation _ _ heff).applyTable tx o
    · exact (h.applyTable tx o).applyStation _ _ heff

theorem State.Freed.routeFree {s : State} {l : LinkNo} (h : s.Freed l) (tx : Transaction) {o : FinalOutcome}
    {c : AttemptClass} (heff : ∀ q, stationEffect o c = .hold q → q ≠ 0#8) : (s.routeFree l tx o c).Freed l := by
  unfold State.routeFree
  split
  · exact h.route tx heff false
  · split
    · exact h.route tx heff (Config.lossFirst s.choices)
    · exact h.route tx heff false

/-- A HOLD is read with quanta of 1 to 255 only (R113, Table 46). -/
theorem classify_hold {tx : Transaction} {whole : Bool} {sld : List Bool} {q : BitVec 8}
    (h : classify tx whole sld = .hold q) : q ≠ 0#8 := by
  unfold classify at h
  split at h
  next => cases h
  next =>
    split at h
    next => cases h
    next =>
      unfold replyClass at h
      simp only at h
      split_ifs at h with _ _ _ _ _ _ _ _ hq
      exact AttemptClass.hold.inj h ▸ hq.2

theorem stationEffect_outcome_hold {tx : Transaction} {c : AttemptClass} {q : BitVec 8}
    (h : stationEffect (c.outcome tx) c = .hold q) : c = .hold q := by
  cases c with
  | hold x => rw [StationEffect.hold.inj h]
  | _ => cases hread : tx.isRead <;> simp [AttemptClass.outcome, stationEffect, hread] at h

/-- The last act of a completion leaves every column sound (R93, R102, R104). -/
theorem State.Freed.afterCompletion {s : State} {l : LinkNo} (h : s.Freed l) : (s.afterCompletion l).ColumnSound := by
  unfold State.afterCompletion
  split
  · exact h.1.updLink ((h.1 l).enterHalted h.2.1 _)
  · split
    · exact h.1.updLink ((h.1 l).enterHalted h.2.1 _)
    · exact h.1.arbitrate l

theorem State.ColumnSound.settled {s : State} (hs : s.ColumnSound) {l : LinkNo} {tx : Transaction}
    (hf : (s.link l).inFlight = some tx) (o : FinalOutcome) : (s.updLink l (fun k => k.settle tx o)).Freed l := by
  refine ⟨hs.updLink ((hs l).settle hf o), by rw [link_updLink_same]; rfl, ?_⟩
  obtain ⟨-, -, -, -, hidle, -⟩ := hs l
  rw [link_updLink_same, settle_eq]
  intro hoff
  simp [hidle (.inl hoff)] at hf

theorem State.ColumnSound.complete {s : State} (hs : s.ColumnSound) {l : LinkNo} {tx : Transaction} {sld : List Bool}
    {whole : Bool} {c : AttemptClass} (hf : (s.link l).inFlight = some tx) (hc : classify tx whole sld = c) :
    (s.complete l tx (c.outcome tx) c).ColumnSound := by
  refine ((hs.settled hf _).routeFree tx fun q hq => ?_).afterCompletion
  exact classify_hold (hc.trans (stationEffect_outcome_hold hq))

/-! ## Every move -/

theorem State.ColumnSound.of_links {s t : State} (hs : s.ColumnSound) (h : ∀ l, t.link l = s.link l) :
    t.ColumnSound := fun l => by rw [h l]; exact hs l

theorem reset_columnSound (l : LinkNo) : Link.reset.ColumnSound l := by
  refine ⟨fun st => ?_, queueSound_of_unmarked (Nat.zero_le _) nofun nofun rfl, ⟨nofun, nofun, nofun, nofun⟩,
    addressSound_of_none rfl, fun _ => rfl, fun _ => ⟨rfl, fun st => ?_⟩⟩
  · simpa [Link.reset, Link.station] using reset_sound
  · simp [Link.reset, Link.station, StationRecord.reset, StationRecord.isMissing]

theorem afterReset_columnSound (k : Link) (l : LinkNo) : k.afterReset.ColumnSound l := by
  obtain ⟨hrecords, hq, hd, ha, hidle, hoff⟩ := reset_columnSound l
  exact ⟨hrecords, hq, hd, ha, hidle, hoff⟩

/-- A hold that ends leaves a record that is neither HELD nor MISSING. -/
theorem Link.ColumnSound.endHold {k : Link} {l : LinkNo} (h : k.ColumnSound l) (st : StationNo) :
    (k.setStation st (k.station st).afterHold).ColumnSound l := by
  refine h.setStation (afterHold_sound (h.1 st)) (by simp) (by simp) fun tx _ _ => ⟨by simp, fun x hx => ?_⟩
  have hheld := (isHeld_iff _).mpr ⟨x, hx⟩
  simp at hheld

theorem Link.ColumnSound.runAfresh {k : Link} {l : LinkNo} (h : k.ColumnSound l) : k.runAfresh.ColumnSound l := h.run

/-- As RST_N rises every line takes a quiet time (R120). -/
theorem link_pinHigh {s : State} (low : s.rstLow = true) (l : LinkNo) :
    s.pinHigh.link l = { s.link l with line := LineState.reset } := by
  simp [State.pinHigh, low, State.link]

theorem QuietMove.columnSound {s t : State} (h : QuietMove s t) (hs : s.ColumnSound) : t.ColumnSound := by
  cases h with
  | remove p => rw [removeEntries_eq_withoutKeys]; exact hs.of_links fun _ => rfl
  | modify k code phase mask first legal => exact (hs.of_links (entryEvent_link s _ _)).arbitrate k.link
  | hold l st n range found =>
    exact hs.updLink ((hs l).enterHeld (hostHeld_sound ((hs l).1 st) range) (.inr rfl))
  | release l st held => exact (hs.updLink ((hs l).endHold st)).arbitrate l
  | forget l st missing =>
    have hset : (s.setStation l st StationRecord.reset).ColumnSound :=
      hs.updLink ((hs l).setStation reset_sound nofun nofun fun _ _ _ => ⟨nofun, nofun⟩)
    exact (hset.of_links (entryEvent_link _ _ _)).arbitrate l
  | runAfresh l high idle =>
    rw [ranAfresh_eq_updLink]
    refine State.ColumnSound.arbitrate (hs.updLink ?_) l
    exact (hs l).runAfresh
  | runOn l stopping => exact hs.updLink (hs l).run
  | stop l running =>
    refine hs.updLink ?_
    split
    next => exact (hs l).enterStopping
    next hnone => exact (hs l).enterHalted (by simpa using hnone) _
  | resetLink l => exact (hs.updLink (afterReset_columnSound _ l)).of_links (entryEvent_link _ _ _)
  | deliver l key v n ready => exact hs.updLink ((hs l).emptySlot (by simp [ready]))
  | demand key running heeded empty =>
    exact (hs.updLink ((hs key.link).fillSlot empty running heeded)).arbitrate key.link
  | take r rest oldest => rw [oldestLost_eq]; exact hs.of_links fun _ => rfl
  | newLinger linger => rw [oldestLost_eq]; exact hs.of_links fun _ => rfl
  | pinLow => exact fun l => (reset_link l).symm ▸ reset_columnSound l
  | pinHigh low =>
    intro l
    rw [link_pinHigh low]
    exact hs l
  | slotTick l running =>
    have hticked : (s.tickOwners l).ColumnSound := by
      intro m
      by_cases hm : m = l
      · subst hm
        rw [link_tickOwners]
        exact (hs m).countedDown _
      · rw [tickOwners_eq_event, entryEvent_link, link_updLink_ne _ _ hm]
        exact hs m
    rw [State.slotTick, if_pos running]
    exact (hticked.updLink (hticked l)).arbitrate l
  | holdExpiry l st held => exact (hs.updLink ((hs l).endHold st)).arbitrate l
  | demandExpiry l => exact hs.updLink (hs l).demandTick
  | configure l | setSlot l | setPosition l | events l | rested l | retryGap l | requestSent l =>
    exact hs.updLink (hs l)
  | port | noticeSettings | lingerExpiry => exact hs

theorem State.ColumnSound.enqueued {s : State} (hs : s.ColumnSound) {l : LinkNo} {d : Dest} (reg : RegNo) (data : Value)
    (hon : (s.link l).state ≠ .off) (hfound : s.toMissing l d = false)
    (hroom : (s.link l).queue.length < Config.queueCapacity) : (s.enqueued l d reg data).ColumnSound := by
  have hrecord : ∀ st, d = .station st → ((s.link l).station st).isMissing = false := fun st hd => by
    subst hd
    exact hfound
  have hqueued : (s.updLink l (fun k => { k with queue := k.queue ++ [⟨d, reg, data, false⟩] })).ColumnSound :=
    hs.updLink ((hs l).enqueue reg data hon hrecord hroom)
  cases d with
  | station st => exact hqueued.of_links (entryEvent_link _ _ _)
  | broadcast => exact hqueued

theorem Move.columnSound {s t : State} (h : Move s t) (hs : s.ColumnSound) : t.ColumnSound := by
  cases h with
  | quiet h => exact h.columnSound hs
  | watch k w code phase mask first legal unwatched free =>
    exact State.ColumnSound.arbitrate (s := { s with table := insertEntry _ s.table }) hs k.link
  | accept l d reg data on found room =>
    rw [acceptWrite_eq]
    exact (hs.enqueued reg data on found room).arbitrate l
  | complete l tx sld c inFlight _ class_eq => exact hs.complete inFlight class_eq

theorem advance_columnSound {k : Link} {l : LinkNo} (h : k.ColumnSound l) (level : Bool) :
    (k.lineAdvance level).slotAdvance.ColumnSound l := by
  rw [slotAdvance_frame, lineAdvance_frame]
  exact h

theorem StepMove.columnSound {s t : State} (h : StepMove s t) (hs : s.ColumnSound) : t.ColumnSound := by
  cases h with
  | move h => exact h.columnSound hs
  | advance => exact fun l => (link_advanceTimers s l).symm ▸ advance_columnSound (hs l) _
  | openWindow l | lengthen l => exact hs.updLink (hs l)
  | queue | choices => exact hs

/-- Settles O55: every move of a step keeps the laws of every column. -/
theorem stepKeepsTheColumns : Obligations.StepKeepsTheColumns := by
  unfold Obligations.StepKeepsTheColumns
  exact fun s t hs h => step_keeps (P := State.ColumnSound) (fun _ _ hmove => hmove.columnSound) hs h

end Sys2Proof.Machine
end

section
/-! PROOFS. The link engines and line interfaces stay sound (04, 05, 06). -/

namespace Sys2Proof.Machine

/-! ## The parts of a column that an engine law speaks of -/

theorem configSound_of_ranges {k : Link} (h : k.ConfigSound) {divider retryLimit missLimit : Nat}
    (hrange : 3 ≤ divider ∧ divider ≤ 999 ∧ retryLimit ≤ 7 ∧ 1 ≤ missLimit ∧ missLimit ≤ 15) :
    ({ k with divider := divider, retryLimit := retryLimit, missLimit := missLimit } : Link).ConfigSound := by
  obtain ⟨-, -, -, -, -, hslot⟩ := h
  obtain ⟨h1, h2, h3, h4, h5⟩ := hrange
  exact ⟨h1, h2, h3, h4, h5, hslot⟩

/-- A running slot timer belongs to a RUNNING link and the other way round (R71). -/
theorem slotTimer_of_running {k : Link} (h : k.SlotSound) (hstate : k.state = .running) :
    ∃ t, k.slotTimer = .running t := by
  unfold Link.SlotSound at h
  cases hslot : k.slotTimer with
  | running t => exact ⟨t, rfl⟩
  | stopped => simp [hslot, hstate] at h
  | paused t => simp [hslot, hstate] at h

theorem slotTimer_of_stopping {k : Link} (h : k.SlotSound) (hstate : k.state = .stopping) :
    ∃ t, k.slotTimer = .paused t := by
  unfold Link.SlotSound at h
  cases hslot : k.slotTimer with
  | paused t => exact ⟨t, rfl⟩
  | stopped => simp [hslot, hstate] at h
  | running t => simp [hslot, hstate] at h

/-! ## Lines -/

theorem underWay_iff (n : LineState) : n.underWay = true ↔ n.Attempts := by
  unfold LineState.underWay LineState.Attempts
  cases n.phase <;> simp

/-- A line at rest or free, with no transaction, is sound (R108). -/
theorem lineSound_of_idle {k : Link} (hf : k.inFlight = none) (hphase : k.line.phase = .idle)
    (hattempt : k.line.attempt = 0) (hwhole : k.line.sentWhole = false) (hreply : k.line.reply = []) :
    k.LineSound := by
  simp [Link.LineSound, hf, hphase, hattempt, hwhole, hreply, LineState.underWay]

/-- The free line of a sound column. -/
theorem Link.LineSound.idle {k : Link} (h : k.LineSound) (hf : k.inFlight = none) :
    k.line.phase = .idle ∧ k.line.attempt = 0 ∧ k.line.sentWhole = false ∧ k.line.reply = [] := by
  obtain ⟨hflight, hattempt, -, -, -, -, -, hclear, hreply, -⟩ := h
  have hphase := hflight.mp hf
  exact ⟨hphase, hattempt hphase, hclear (.inl hphase), hreply (by simp [hphase])⟩

/-- A lead begins in a sound way whatever the line was (R111). -/
theorem lineSound_lead {k : Link} {tx : Transaction} (hf : k.inFlight = some tx) (n : LineState) {attempt : Nat}
    (hmin : 1 ≤ attempt) (hmax : attempt ≤ k.retryLimit + 1) :
    ({ k with line := n.lead tx attempt } : Link).LineSound := by
  simp [Link.LineSound, LineState.lead, hf, hmin, hmax]

/-- A transaction handed to a line begins its lead or waits out the rest that runs (R99, R114). -/
theorem lineSound_issue {k : Link} {tx : Transaction} (hf : k.inFlight = some tx) (n : LineState) :
    ({ k with line := n.issue tx } : Link).LineSound := by
  unfold LineState.issue
  cases hrest : n.rest with
  | none => exact lineSound_lead hf n (Nat.le_refl 1) (by omega)
  | gap | quiet => simp [Link.LineSound, hf, LineState.underWay]

/-- The rest of a sound line runs out: the attempt it kept back begins, or the line is free (R114, R120). -/
theorem Link.LineSound.rested {k : Link} (h : k.LineSound) (hrest : k.line.rest ≠ .none) :
    ({ k with line := k.line.rested k.inFlight } : Link).LineSound := by
  obtain ⟨hflight, hidle, -, -, hgap, hway, -, hclear, hreply, -⟩ := h
  cases hf : k.inFlight with
  | none =>
    have hphase := hflight.mp hf
    exact lineSound_of_idle rfl (by simp [LineState.rested, hphase]) (by simp [LineState.rested, hphase, hidle])
      (by simp [LineState.rested, hphase, hclear]) (by simp [LineState.rested, hphase, hreply])
  | some tx =>
    have hnotIdle : k.line.phase ≠ .idle := fun hphase => by simp [hflight.mpr hphase] at hf
    cases hphase : k.line.phase with
    | idle => exact absurd hphase hnotIdle
    | wait =>
      simpa [LineState.rested, hphase] using lineSound_lead (k := { k with inFlight := some tx }) rfl k.line
        (Nat.le_refl 1) (by simp)
    | gap =>
      simpa [LineState.rested, hphase] using lineSound_lead (k := { k with inFlight := some tx }) rfl k.line
        (Nat.le_add_left 1 _) (by simpa using (hgap hphase).2)
    | request | turnaround | reply => exact absurd (hway (by simp [LineState.underWay, hphase])) hrest

/-- The gap before the next attempt runs (R114). -/
theorem Link.LineSound.retryGap {k : Link} (h : k.LineSound) {tx : Transaction} (hf : k.inFlight = some tx)
    (hremains : k.line.attempt ≤ k.retryLimit) : ({ k with line := k.line.retryGap } : Link).LineSound := by
  obtain ⟨hflight, -, hattempt, -⟩ := h
  have hnotIdle : k.line.phase ≠ .idle := fun hphase => by simp [hflight.mpr hphase] at hf
  have hmin := (hattempt hnotIdle).1
  simp [Link.LineSound, LineState.retryGap, LineState.underWay, hf, hmin, hremains]
  omega

/-- A request sent whole opens the turnaround (R111). -/
theorem Link.LineSound.sent {k : Link} (h : k.LineSound) {tx : Transaction} (hf : k.inFlight = some tx)
    (hphase : k.line.phase = .request) : ({ k with line := k.line.sent } : Link).LineSound := by
  obtain ⟨-, -, hattempt, -, -, hway, -, -, hreply, -⟩ := h
  have hrange := hattempt (by simp [hphase])
  have hnone := hway (by simp [LineState.underWay, hphase])
  simp [Link.LineSound, LineState.sent, LineState.underWay, hf, hnone, hreply, hphase, hrange]

/-- The reply window opens with its 3 code bits to come (R112). -/
theorem Link.LineSound.openWindow {k : Link} (h : k.LineSound) (hphase : k.line.phase = .turnaround) :
    ({ k with line := k.line.openWindow } : Link).LineSound := by
  obtain ⟨hflight, -, hattempt, -, -, hway, hwhole, -, -, -⟩ := h
  have hrange := hattempt (by simp [hphase])
  have hnone := hway (by simp [LineState.underWay, hphase])
  have hsome : k.inFlight ≠ none := fun hf => by simp [hflight.mp hf] at hphase
  have hset := hwhole (.inl hphase)
  simp [Link.LineSound, LineState.openWindow, hsome, hrange, hnone, hset, LineState.windowBits, Config.codeBits]

/-- A window that the code lengthens has as many bits as it holds and is still to hold (R112). -/
theorem Link.LineSound.lengthen {k : Link} (h : k.LineSound) {tx : Transaction} (hf : k.inFlight = some tx)
    (hphase : k.line.phase = .reply) {bits : List Bool}
    (hmore : bits.length < ({ k.line with reply := bits } : LineState).windowBits tx.isRead) :
    ({ k with
        line := k.line.lengthen bits
          (({ k.line with reply := bits } : LineState).windowBits tx.isRead - bits.length) } : Link).LineSound := by
  obtain ⟨-, -, hattempt, -, -, hway, hwhole, -, -, -⟩ := h
  have hrange := hattempt (by simp [hphase])
  have hnone := hway (by simp [LineState.underWay, hphase])
  have hset := hwhole (.inr hphase)
  have hsame : ∀ m, (k.line.lengthen bits m).windowBits tx.isRead =
      ({ k.line with reply := bits } : LineState).windowBits tx.isRead := fun _ => rfl
  generalize ({ k.line with reply := bits } : LineState).windowBits tx.isRead = window at hmore hsame ⊢
  refine ⟨by simp [hf, LineState.lengthen, hphase], fun h => ?_, fun _ => hrange, fun h => ?_, fun h => ?_,
    fun _ => hnone, fun _ => hset, fun h => ?_, fun h => absurd hphase h, fun _ => ⟨?_, fun t ht => ?_⟩⟩
  · exact absurd (hphase.symm.trans h) nofun
  · exact absurd (hphase.symm.trans h) nofun
  · exact absurd (hphase.symm.trans h) nofun
  · obtain h | h | h := h <;> exact absurd (hphase.symm.trans h) nofun
  · exact Nat.sub_pos_of_lt hmore
  · obtain rfl := Option.some.inj (hf.symm.trans ht)
    exact (Nat.add_sub_cancel' hmore.le).trans (hsame _).symm

/-- The code of a window stands in its first bits, whatever follows them. -/
theorem sampled_append {bits : List Bool} (more : List Bool) {w : Nat} (h : w ≤ bits.length) :
    sampled (bits ++ more) 0 w = sampled bits 0 w := by
  unfold sampled
  have hsame : ∀ i ∈ List.range w, outside (bits ++ more) (0 + i) = outside bits (0 + i) := fun i hi => by
    have hi := List.mem_range.mp hi
    simp [outside, List.getElem?_append_left (show i < bits.length by omega)]
  exact List.foldl_ext _ _ _ fun v i hi => by rw [hsame i hi]

/-- A bit gathered while more than one is to come does not change how many the window holds (R112). -/
theorem windowBits_append {n : LineState} {isRead : Bool} (level : Bool)
    (h : n.reply.length + 2 ≤ n.windowBits isRead) :
    ({ n with reply := n.reply ++ [level] } : LineState).windowBits isRead = n.windowBits isRead := by
  unfold LineState.windowBits at h ⊢
  simp only [Config.codeBits, List.length_append, List.length_singleton] at h ⊢
  by_cases hcode : n.reply.length < 3
  · have hmore : n.reply.length + 1 < 3 := by
      simp only [hcode, if_true] at h
      omega
    simp [hcode, hmore]
  · have hmore : ¬ n.reply.length + 1 < 3 := by omega
    simp only [hcode, hmore, if_false]
    rw [sampled_append [level] (by omega)]

/-- One REFCLK period leaves a sound line sound: a bit of the window is gathered as its time goes (R108, R112). -/
theorem Link.LineSound.advance {k : Link} (h : k.LineSound) (level : Bool) : (k.lineAdvance level).LineSound := by
  unfold Link.lineAdvance
  split
  case isFalse => exact h
  case isTrue hruns =>
  obtain ⟨hflight, hidle, hattempt, hwait, hgap, hway, hwhole, hclear, hreply, hwindow⟩ := h
  refine ⟨hflight, hidle, hattempt, hwait, hgap, hway, hwhole, hclear, fun hphase => ?_, fun hphase => ?_⟩
  · have hne : (k.line.phase == .reply) = false := by simpa using hphase
    simpa [hne] using hreply hphase
  · have hphase : k.line.phase = .reply := hphase
    have hnone := hway (by simp [LineState.underWay, hphase])
    obtain ⟨hmin, htotal⟩ := hwindow hphase
    have hlast : k.line.timer.last k.bitPeriod = false := by
      simp only [Link.lineDue, Link.lineTimed, Bool.and_eq_true, Bool.not_eq_true', Bool.or_eq_false_iff,
        Bool.and_eq_false_iff] at hruns
      obtain ⟨-, hlast, -⟩ := hruns
      exact hlast.resolve_left fun h => by simp [LineState.underWay, hphase] at h
    simp only [Timer.last, Bool.and_eq_false_iff, decide_eq_false_iff_not] at hlast
    by_cases hbit : k.bitPeriod ≤ k.line.timer.sub + 1
    · have hends : k.attemptBitEnds = true := by
        simp [Link.attemptBitEnds, hnone, LineState.underWay, hphase, hbit]
      have hleft : 2 ≤ k.line.timer.left := by omega
      simp only [hends, hphase, Timer.advance, hbit, if_true, beq_self_eq_true, Bool.and_self, List.length_append,
        List.length_singleton]
      refine ⟨by omega, fun tx htx => ?_⟩
      have htotal := htotal tx htx
      exact (by omega : _ = k.line.windowBits tx.isRead).trans (windowBits_append level (by omega)).symm
    · have hends : k.attemptBitEnds = false := by simp [Link.attemptBitEnds, hbit]
      simp only [hends, Timer.advance, hbit, if_false, Bool.false_and, Bool.false_eq_true]
      exact ⟨hmin, htotal⟩

/-! ## Columns -/

theorem Link.EngineSound.running {k : Link} (h : k.EngineSound) {tx : Transaction} (hf : k.inFlight = some tx) :
    k.state = .running ∨ k.state = .stopping := by
  obtain ⟨-, -, -, hidle, -⟩ := h
  cases hstate : k.state with
  | running => exact .inl rfl
  | stopping => exact .inr rfl
  | off => simp [hidle (.inl hstate)] at hf
  | halted => simp [hidle (.inr hstate)] at hf

/-- A sound line in place of the line of a sound column, under the same transaction. -/
theorem Link.EngineSound.withLine {k : Link} (h : k.EngineSound) {n : LineState}
    (hline : ({ k with line := n } : Link).LineSound) : ({ k with line := n } : Link).EngineSound := by
  obtain ⟨hconfig, hslot, -, hrest⟩ := h
  exact ⟨hconfig, hslot, hline, hrest⟩

/-- A RUNNING link with its line free hands a transaction out (R98, R99). -/
theorem Link.EngineSound.start {k : Link} (h : k.EngineSound) (hstate : k.state = .running) (g : Group)
    (tx : Transaction) : (k.start g tx).EngineSound := by
  obtain ⟨hconfig, hslot, -, -, -, hrun, hlow⟩ := h
  refine ⟨hconfig, hslot, lineSound_issue (k := { k with pointer := g, inFlight := some tx }) rfl k.line,
    fun hidle => ?_, fun _ => nofun, hrun, hlow⟩
  have hstate' : (k.start g tx).state = .running := hstate
  simp [hstate'] at hidle

theorem Link.EngineSound.issue {k : Link} (h : k.EngineSound) (hstate : k.state = .running) :
    k.issueWrite.EngineSound ∧ k.issueDemand.EngineSound ∧ ∀ passes, (k.issuePoll passes).EngineSound := by
  refine ⟨?_, ?_, fun passes => ?_⟩
  · unfold Link.issueWrite
    split
    · exact h
    · exact Link.EngineSound.start (k := { k with queue := _ }) h hstate .write _
  · unfold Link.issueDemand
    split
    · exact Link.EngineSound.start (k := { k with demand := _ }) h hstate .demand _
    all_goals exact h
  · obtain hsame | ⟨i, rest, -, -, -, hissue⟩ := issuePoll_cases k passes
    · rwa [hsame]
    · rw [hissue]
      exact Link.EngineSound.start (k := { k with batch := rest }) h hstate .poll _

/-- A link enters HALTED with its line free (R92). -/
theorem engineSound_enterHalted {k : Link} (hconfig : k.ConfigSound) (hline : k.LineSound) (hf : k.inFlight = none)
    (hrun : k.blockedRun ≤ 4) (why : HaltReason) : (k.enterHalted why).EngineSound := by
  rw [Link.enterHalted, dropWaiting_frame]
  exact ⟨hconfig, .inr rfl, hline, fun _ => hf, nofun, hrun, nofun⟩

/-- A link enters STOPPING with a transaction in flight (R91). -/
theorem Link.EngineSound.enterStopping {k : Link} (h : k.EngineSound) (hstate : k.state = .running)
    (hf : k.inFlight.isSome = true) : k.enterStopping.EngineSound := by
  obtain ⟨hconfig, hslot, hline, -, -, hrun, hlow⟩ := h
  obtain ⟨t, ht⟩ := slotTimer_of_running hslot hstate
  rw [Link.enterStopping, dropWaiting_frame]
  refine ⟨hconfig, ?_, hline, nofun, fun _ => Option.isSome_iff_ne_none.mp hf, hrun, fun _ => hlow (.inl hstate)⟩
  simp [Link.SlotSound, ht, SlotTimer.pause]

theorem Link.EngineSound.runOn {k : Link} (h : k.EngineSound) (hstate : k.state = .stopping) :
    ({ k with state := .running, slotTimer := k.slotTimer.resume } : Link).EngineSound := by
  obtain ⟨hconfig, hslot, hline, -, -, hrun, hlow⟩ := h
  obtain ⟨t, ht⟩ := slotTimer_of_stopping hslot hstate
  refine ⟨hconfig, ?_, hline, nofun, nofun, hrun, fun _ => hlow (.inr hstate)⟩
  simp [Link.SlotSound, ht, SlotTimer.resume]

theorem Link.EngineSound.runAfresh {k : Link} (h : k.EngineSound) : k.runAfresh.EngineSound := by
  obtain ⟨hconfig, -, hline, -⟩ := h
  exact ⟨hconfig, rfl, hline, nofun, nofun, Nat.zero_le 4, fun _ => Nat.zero_lt_succ 3⟩

theorem reset_lineSound {k : Link} (hf : k.inFlight = none) :
    ({ k with line := LineState.reset } : Link).LineSound :=
  lineSound_of_idle hf rfl rfl rfl rfl

theorem Link.EngineSound.afterReset {k : Link} (h : k.EngineSound) : k.afterReset.EngineSound := by
  obtain ⟨hconfig, -, hline, -⟩ := h
  refine ⟨hconfig, .inl rfl, ?_, fun _ => rfl, nofun, Nat.zero_le 4, nofun⟩
  unfold Link.afterReset
  cases hf : k.inFlight with
  | some tx => exact lineSound_of_idle rfl rfl rfl rfl rfl
  | none =>
    obtain ⟨hphase, hattempt, hwhole, hreply⟩ := hline.idle hf
    exact lineSound_of_idle rfl hphase hattempt hwhole hreply

theorem Link.EngineSound.configure {k : Link} (h : k.EngineSound) {divider retryLimit missLimit : Nat}
    (hrange : 3 ≤ divider ∧ divider ≤ 999 ∧ retryLimit ≤ 7 ∧ 1 ≤ missLimit ∧ missLimit ≤ 15)
    (hstate : k.state = .off ∨ k.state = .halted) :
    ({ k with divider := divider, retryLimit := retryLimit, missLimit := missLimit } : Link).EngineSound := by
  obtain ⟨hconfig, hslot, hline, hidle, hrest⟩ := h
  obtain ⟨hphase, hattempt, hwhole, hreply⟩ := hline.idle (hidle hstate)
  exact ⟨configSound_of_ranges hconfig hrange, hslot, lineSound_of_idle (hidle hstate) hphase hattempt hwhole hreply,
    hidle, hrest⟩

theorem Link.EngineSound.setSlot {k : Link} (h : k.EngineSound) {n : Nat} (hrange : 4 ≤ n ∧ n ≤ 255) :
    ({ k with slotSetting := n } : Link).EngineSound := by
  obtain ⟨⟨h1, h2, h3, h4, h5, -⟩, hrest⟩ := h
  exact ⟨⟨h1, h2, h3, h4, h5, hrange⟩, hrest⟩

theorem reset_engineSound : Link.reset.EngineSound := by
  exact ⟨by unfold Link.ConfigSound; decide, .inl rfl, lineSound_of_idle rfl rfl rfl rfl rfl, fun _ => rfl, nofun,
    Nat.zero_le 4, nofun⟩

/-! ## What the blocks beside the engine leave alone -/

/-- Two columns that differ in the station records, the queue, the demand slot and the events at most. -/
structure Link.SameEngine (k j : Link) : Prop where
  frame : j = { k with stations := j.stations, queue := j.queue, demand := j.demand, events := j.events }

theorem Link.SameEngine.refl (k : Link) : k.SameEngine k := ⟨rfl⟩

theorem Link.SameEngine.trans {k j i : Link} (h : k.SameEngine j) (h' : j.SameEngine i) : k.SameEngine i := by
  refine ⟨h'.frame.trans ?_⟩
  conv_lhs => rw [h.frame]

theorem Link.SameEngine.engineSound {k j : Link} (h : k.SameEngine j) (hk : k.EngineSound) : j.EngineSound := by
  rw [h.frame]
  exact hk

theorem sameEngine_failDemand (k : Link) (st : StationNo) : k.SameEngine (k.failDemand st) := by
  rw [failDemand_frame]
  exact ⟨rfl⟩

theorem sameEngine_enterHeld (k : Link) (st : StationNo) (r : StationRecord) (h : Hold) :
    k.SameEngine (k.enterHeld st r h) :=
  Link.SameEngine.trans (j := k.setStation st { r with standing := .held h }) ⟨rfl⟩ (sameEngine_failDemand _ st)

/-- What the table and the station table do with an outcome leaves the engine alone. -/
abbrev State.SameEngine (s t : State) (l : LinkNo) : Prop := (s.link l).SameEngine (t.link l)

theorem sameEngine_entryEvent (s : State) (l : LinkNo) (p : Entry → Bool) (f : Entry → Entry × List Reason) :
    s.SameEngine (s.entryEvent p f) l := by
  rw [State.SameEngine, entryEvent_link]
  exact .refl _

theorem sameEngine_updLink (s : State) {l : LinkNo} {f : Link → Link} (h : (s.link l).SameEngine (f (s.link l))) :
    s.SameEngine (s.updLink l f) l := by
  rwa [State.SameEngine, link_updLink_same]

theorem sameEngine_applyTable (s : State) (l : LinkNo) (tx : Transaction) (o : FinalOutcome) :
    s.SameEngine (s.applyTable l tx o) l := by
  cases tx with
  | poll | demandRead | write => exact sameEngine_entryEvent ..
  | probe => exact .refl _
  | broadcast =>
    simp only [State.applyTable]
    split
    · exact sameEngine_entryEvent ..
    · exact .refl _

theorem sameEngine_loseStation (s : State) (l : LinkNo) (st : StationNo) :
    s.SameEngine (s.loseStation l st) l := by
  refine Link.SameEngine.trans (sameEngine_updLink s ?_) (sameEngine_entryEvent _ l _ _)
  rw [failDemand_frame]
  exact ⟨rfl⟩

theorem sameEngine_findStation (s : State) (l : LinkNo) (st : StationNo) (q : Option (BitVec 8)) :
    s.SameEngine (s.findStation l st q) l := by
  refine Link.SameEngine.trans (sameEngine_updLink s ?_) (sameEngine_entryEvent _ l _ _)
  cases q with
  | none => exact ⟨rfl⟩
  | some x => exact (sameEngine_enterHeld _ st _ _).trans ⟨rfl⟩

theorem sameEngine_setStation (s : State) (l : LinkNo) (st : StationNo) (r : StationRecord) :
    s.SameEngine (s.setStation l st r) l := sameEngine_updLink s ⟨rfl⟩

theorem sameEngine_holdEffect (s : State) (l : LinkNo) (st : StationNo) (q : BitVec 8) :
    s.SameEngine (s.holdEffect l st q) l := by
  unfold State.holdEffect
  simp only
  split
  next => exact sameEngine_updLink s (sameEngine_enterHeld ..)
  next => exact sameEngine_updLink s (sameEngine_enterHeld ..)
  next => exact sameEngine_setStation ..
  next => exact sameEngine_setStation ..
  next => exact sameEngine_setStation ..

theorem sameEngine_applyStation (s : State) (l : LinkNo) (st : StationNo) (probe : Bool) (eff : StationEffect) :
    s.SameEngine (s.applyStation l st probe eff) l := by
  unfold State.applyStation
  cases eff with
  | none => exact .refl _
  | reply =>
    simp only
    split
    · exact sameEngine_findStation ..
    · exact sameEngine_setStation ..
  | hold q =>
    simp only
    split
    · exact sameEngine_findStation ..
    · exact sameEngine_holdEffect ..
  | silence =>
    simp only
    split
    · exact sameEngine_loseStation ..
    · exact sameEngine_setStation ..

theorem sameEngine_route (s : State) (l : LinkNo) (tx : Transaction) (o : FinalOutcome) (c : AttemptClass)
    (first : Bool) : s.SameEngine (s.route l tx o c first) l := by
  unfold State.route
  split
  · exact sameEngine_applyTable ..
  · split
    · exact (sameEngine_applyStation ..).trans (sameEngine_applyTable ..)
    · exact (sameEngine_applyTable ..).trans (sameEngine_applyStation ..)

/-- The routing of an outcome leaves the engine and the line of the link alone (R102). -/
theorem sameEngine_routeFree (s : State) (l : LinkNo) (tx : Transaction) (o : FinalOutcome) (c : AttemptClass) :
    s.SameEngine (s.routeFree l tx o c) l := by
  unfold State.routeFree
  split
  · exact sameEngine_route ..
  · split
    · exact sameEngine_route s l tx o c _
    · exact sameEngine_route ..

/-! ## The part -/

/-- A column changed to a sound one keeps the part sound, where the link stays OFF if RST_N is low. -/
theorem State.EngineSound.updLink {s : State} (hs : s.EngineSound) {l : LinkNo} {f : Link → Link}
    (hf : (f (s.link l)).EngineSound) (hlow : s.rstLow = true → (f (s.link l)).state = .off) :
    (s.updLink l f).EngineSound := by
  intro m
  rw [link_updLink]
  split
  next => exact ⟨hf, hlow⟩
  next => exact hs m

/-- A column changed in its engine not at all. -/
theorem State.EngineSound.updSame {s : State} (hs : s.EngineSound) {l : LinkNo} {f : Link → Link}
    (hf : (s.link l).SameEngine (f (s.link l))) : (s.updLink l f).EngineSound := by
  refine hs.updLink (hf.engineSound (hs l).1) fun hlow => ?_
  rw [hf.frame]
  exact (hs l).2 hlow

theorem State.EngineSound.high {s : State} (hs : s.EngineSound) {l : LinkNo} (h : (s.link l).state ≠ .off) :
    s.rstLow = false :=
  Bool.eq_false_iff.mpr fun hlow => h ((hs l).2 hlow)

theorem State.EngineSound.high_of_inFlight {s : State} (hs : s.EngineSound) {l : LinkNo} {tx : Transaction}
    (hf : (s.link l).inFlight = some tx) : s.rstLow = false := by
  refine hs.high (l := l) fun hoff => ?_
  obtain h | h := (hs l).1.running hf <;> simp [hoff] at h

/-- A line changed in a sound way, with its link as it was. -/
theorem State.EngineSound.updLine {s : State} (hs : s.EngineSound) {l : LinkNo} {f : Link → LineState}
    (hf : ({ s.link l with line := f (s.link l) } : Link).LineSound) :
    (s.updLink l (fun k => { k with line := f k })).EngineSound :=
  hs.updLink ((hs l).1.withLine hf) (hs l).2

theorem State.EngineSound.of_links {s t : State} (hs : s.EngineSound) (h : ∀ l, t.link l = s.link l)
    (hr : t.rstLow = s.rstLow) : t.EngineSound := fun l => by
  rw [h l, hr]
  exact hs l

theorem State.EngineSound.arbitrate {s : State} (hs : s.EngineSound) (l : LinkNo) : (s.arbitrate l).EngineSound := by
  obtain ⟨-, h⟩ | ⟨-, -, -, h⟩ | ⟨g, hstate, -, -, -, h⟩ := arbitrate_cases s l
  · rwa [h]
  · rwa [h]
  · rw [h]
    obtain ⟨hwrite, hdemand, hpoll⟩ := (hs l).1.issue hstate
    refine hs.updLink ?_ fun hlow => ?_
    · cases g with
      | write => exact hwrite
      | demand => exact hdemand
      | poll => exact hpoll _
    · simp [hs.high (l := l) (by simp [hstate])] at hlow

/-- A completion on a sound engine: the line is freed, and the run of BLOCKED outcomes or a stop halts the link (R93,
R102, R104). -/
theorem State.EngineSound.complete {s : State} (hs : s.EngineSound) {l : LinkNo} {tx : Transaction}
    (hf : (s.link l).inFlight = some tx) (o : FinalOutcome) (c : AttemptClass) :
    (s.complete l tx o c).EngineSound := by
  have hhigh := hs.high_of_inFlight hf
  have hstate := (hs l).1.running hf
  obtain ⟨hconfig, hslot, -⟩ := (hs l).1
  have hacts : LinkActs l s ((s.updLink l (fun k => k.settle tx o)).routeFree l tx o c) :=
    (LinkActs.column .refl _).routeFree tx o c
  have hroute := sameEngine_routeFree (s.updLink l (fun k => k.settle tx o)) l tx o c
  rw [State.SameEngine, link_updLink_same, settle_eq] at hroute
  have hothers : ∀ m, m ≠ l →
      (((s.updLink l (fun k => k.settle tx o)).routeFree l tx o c).link m).EngineSound := fun m hm => by
    rw [hacts.link_ne hm]
    exact (hs m).1
  have hrst := hacts.samePort.rstLow.trans hhigh
  unfold State.complete
  generalize (s.updLink l (fun k => k.settle tx o)).routeFree l tx o c = u at hroute hothers hrst ⊢
  have hrun : (u.link l).blockedRun ≤ 4 := by
    rw [hroute.frame]
    simp only
    split
    · exact Nat.min_le_left _ _
    · exact Nat.zero_le 4
  have hline : (u.link l).LineSound := by
    rw [hroute.frame]
    exact lineSound_of_idle rfl rfl rfl rfl rfl
  have hconfig : (u.link l).ConfigSound := by
    rw [hroute.frame]
    exact hconfig
  have hnone : (u.link l).inFlight = none := by rw [hroute.frame]
  have hhalt : ∀ why, (u.updLink l (fun k => k.enterHalted why)).EngineSound := by
    intro why m
    rw [link_updLink]
    split
    · exact ⟨engineSound_enterHalted hconfig hline hnone hrun why, fun hlow => absurd (hrst.symm.trans hlow) nofun⟩
    next hm => exact ⟨hothers m hm, fun hlow => absurd (hrst.symm.trans hlow) nofun⟩
  unfold State.afterCompletion
  split
  next => exact hhalt _
  next hnotFourth =>
    split
    next => exact hhalt _
    next hnotStopping =>
      have hrunning : (u.link l).state = .running := by
        have hsame : (u.link l).state = (s.link l).state := by rw [hroute.frame]
        rw [hsame] at hnotStopping ⊢
        exact hstate.resolve_right hnotStopping
      have hsound : u.EngineSound := by
        intro m
        refine ⟨?_, fun hlow => absurd (hrst.symm.trans hlow) nofun⟩
        by_cases hm : m = l
        · subst hm
          have hslot : (u.link m).SlotSound := by
            rw [hroute.frame]
            exact hslot
          have hlt : (u.link m).blockedRun < 4 := Nat.lt_of_le_of_ne hrun hnotFourth
          exact ⟨hconfig, hslot, hline, fun _ => hnone, fun h => by simp [hrunning] at h, hrun, fun _ => hlt⟩
        · exact hothers m hm
      exact hsound.arbitrate l

/-! ## Every move -/

theorem sameEngine_demandTick (k : Link) : k.SameEngine k.demandTick := by
  unfold Link.demandTick
  split
  · split <;> exact ⟨rfl⟩
  all_goals exact .refl k

/-- A tick of a RUNNING link begins a full slot and leaves the engine as it was (R72). -/
theorem countedDown_engineSound {k : Link} (h : k.EngineSound) (hstate : k.state = .running) (n : Nat) :
    ({ k.countedDown n with
      position := (k.countedDown n).position + 1
      slotTimer := (k.countedDown n).fullSlot
      batch := [] } : Link).EngineSound := by
  have hcounted : (k.countedDown n).EngineSound ∧ (k.countedDown n).state = k.state := by
    have hoverrun : (k.overrun n).EngineSound ∧ (k.overrun n).state = k.state := by
      unfold Link.overrun
      split <;> exact ⟨h, rfl⟩
    have hsame := sameEngine_demandTick (k.overrun n).holdTick
    refine ⟨hsame.engineSound hoverrun.1, ?_⟩
    rw [Link.countedDown, hsame.frame]
    exact hoverrun.2
  obtain ⟨⟨hconfig, -, hline, hrest⟩, hsame⟩ := hcounted
  exact ⟨hconfig, hsame.trans hstate, hline, hrest⟩

theorem pinLow_engineSound (s : State) : s.pinLow.EngineSound := by
  intro l
  have hlink : s.pinLow.link l = Link.reset := reset_link l
  rw [hlink]
  exact ⟨reset_engineSound, fun _ => rfl⟩

theorem QuietMove.engineSound {s t : State} (h : QuietMove s t) (hs : s.EngineSound) : t.EngineSound := by
  cases h with
  | remove p => rw [removeEntries_eq_withoutKeys]; exact hs.of_links (fun _ => rfl) rfl
  | modify k code phase mask first legal =>
    exact (hs.of_links (entryEvent_link s _ _) (entryEvent_rstLow s _ _)).arbitrate k.link
  | hold l st n range found => exact hs.updSame (sameEngine_enterHeld ..)
  | release l st held =>
    exact State.EngineSound.arbitrate (hs.updSame (f := fun k => k.setStation st (k.station st).afterHold) ⟨rfl⟩) l
  | forget l st missing =>
    have hset : (s.setStation l st StationRecord.reset).EngineSound := hs.updSame ⟨rfl⟩
    exact (hset.of_links (entryEvent_link _ _ _) (entryEvent_rstLow _ _ _)).arbitrate l
  | runAfresh l high idle =>
    rw [ranAfresh_eq_updLink]
    refine State.EngineSound.arbitrate (hs.updLink ?_ fun hlow => absurd (high.symm.trans hlow) nofun) l
    exact (hs l).1.runAfresh
  | runOn l stopping =>
    exact hs.updLink ((hs l).1.runOn stopping) fun hlow => by simp [(hs l).2 hlow] at stopping
  | stop l running =>
    refine hs.updLink ?_ fun hlow => by simp [(hs l).2 hlow] at running
    split
    next hsome => exact (hs l).1.enterStopping running hsome
    next hnone =>
      obtain ⟨hconfig, -, hline, -, -, hrun, -⟩ := (hs l).1
      exact engineSound_enterHalted hconfig hline (by simpa using hnone) hrun _
  | resetLink l =>
    exact (hs.updLink (hs l).1.afterReset fun _ => rfl).of_links (entryEvent_link _ _ _) (entryEvent_rstLow _ _ _)
  | configure l divider retryLimit missLimit range idle => exact hs.updLink ((hs l).1.configure range idle) (hs l).2
  | setSlot l n range => exact hs.updLink ((hs l).1.setSlot range) (hs l).2
  | setPosition l p => exact hs.updLink (hs l).1 (hs l).2
  | deliver l key v n ready => exact hs.updLink (hs l).1 (hs l).2
  | demand key running heeded empty =>
    exact State.EngineSound.arbitrate (hs.updSame (f := fun k => { k with demand := .waiting key }) ⟨rfl⟩) key.link
  | take r rest oldest => rw [oldestLost_eq]; exact hs.of_links (fun _ => rfl) rfl
  | newLinger linger => rw [oldestLost_eq]; exact hs.of_links (fun _ => rfl) rfl
  | events l events enables => exact hs.updLink (hs l).1 (hs l).2
  | pinLow => exact pinLow_engineSound s
  | pinHigh low =>
    intro l
    obtain ⟨⟨hconfig, hslot, -, hidle, hrest⟩, hoff⟩ := hs l
    have hnone := hidle (.inl (hoff low))
    rw [link_pinHigh low]
    refine ⟨⟨hconfig, hslot, reset_lineSound hnone, hidle, hrest⟩, fun hlow => ?_⟩
    simp [State.pinHigh, low] at hlow
  | slotTick l running =>
    have hticked : (s.tickOwners l).EngineSound := by
      rw [tickOwners_eq_event]
      refine State.EngineSound.of_links (hs.updLink ?_ fun hlow => ?_) (entryEvent_link _ _ _) (entryEvent_rstLow _ _ _)
      · exact countedDown_engineSound (hs l).1 running _
      · simp [(hs l).2 hlow] at running
    rw [State.slotTick, if_pos running]
    exact State.EngineSound.arbitrate (hticked.updLink (hticked l).1 (hticked l).2) l
  | holdExpiry l st held =>
    exact State.EngineSound.arbitrate (hs.updLink (hs l).1 (hs l).2) l
  | demandExpiry l => exact hs.updSame (sameEngine_demandTick _)
  | rested l rests => exact hs.updLine (f := fun k => k.line.rested k.inFlight) ((hs l).1.2.2.1.rested rests)
  | retryGap l tx inFlight underWay remains =>
    exact hs.updLine (f := fun k => k.line.retryGap) ((hs l).1.2.2.1.retryGap inFlight remains)
  | requestSent l tx inFlight request =>
    exact hs.updLine (f := fun k => k.line.sent) ((hs l).1.2.2.1.sent inFlight request)
  | port | noticeSettings | lingerExpiry => exact hs

theorem Move.engineSound {s t : State} (h : Move s t) (hs : s.EngineSound) : t.EngineSound := by
  cases h with
  | quiet h => exact h.engineSound hs
  | watch k w code phase mask first legal unwatched free =>
    exact State.EngineSound.arbitrate (s := { s with table := insertEntry _ s.table }) hs k.link
  | accept l d reg data on found room =>
    rw [acceptWrite_eq]
    refine State.EngineSound.arbitrate (?_ : (s.enqueued l d reg data).EngineSound) l
    have hqueued : (s.updLink l (fun k => { k with queue := k.queue ++ [⟨d, reg, data, false⟩] })).EngineSound :=
      hs.updSame ⟨rfl⟩
    cases d with
    | station st => exact hqueued.of_links (entryEvent_link _ _ _) (entryEvent_rstLow _ _ _)
    | broadcast => exact hqueued
  | complete l tx sld c inFlight _ class_eq => exact hs.complete inFlight _ c

theorem advance_engineSound {k : Link} (h : k.EngineSound) (level : Bool) :
    (k.lineAdvance level).slotAdvance.EngineSound := by
  have hline := h.2.2.1.advance level
  have hlined : (k.lineAdvance level).EngineSound := by
    rw [lineAdvance_frame] at hline ⊢
    exact h.withLine hline
  unfold Link.slotAdvance
  split
  next t ht =>
    split
    · exact hlined
    · obtain ⟨hconfig, hslot, hrest⟩ := hlined
      refine ⟨hconfig, ?_, hrest⟩
      unfold Link.SlotSound at hslot ⊢
      rw [ht] at hslot
      exact hslot
  all_goals exact hlined

theorem StepMove.engineSound {s t : State} (h : StepMove s t) (hs : s.EngineSound) : t.EngineSound := by
  cases h with
  | move h => exact h.engineSound hs
  | advance =>
    intro l
    rw [link_advanceTimers]
    refine ⟨advance_engineSound (hs l).1 _, fun hlow => ?_⟩
    rw [slotAdvance_frame, lineAdvance_frame]
    exact (hs l).2 hlow
  | openWindow l turnaround =>
    exact hs.updLine (f := fun k => k.line.openWindow) ((hs l).1.2.2.1.openWindow turnaround)
  | lengthen l tx level inFlight reply more =>
    exact hs.updLine (f := fun k => k.line.lengthen (k.line.reply ++ [level])
      (({ k.line with reply := k.line.reply ++ [level] } : LineState).windowBits tx.isRead -
        (k.line.reply ++ [level]).length)) ((hs l).1.2.2.1.lengthen inFlight reply more)
  | queue | choices => exact hs

/-- Settles O54: every move of a step keeps the laws of every link engine. -/
theorem stepKeepsTheEngines : Obligations.StepKeepsTheEngines := by
  unfold Obligations.StepKeepsTheEngines
  exact fun s t hs h => step_keeps (P := State.EngineSound) (fun _ _ hmove => hmove.engineSound) hs h

end Sys2Proof.Machine
end

section
/-! PROOFS. The account of writes and losses stays true (02, 08): pending counts and queues, WRITING and pending, ORPHANED
and MISSING. -/

namespace Sys2Proof.Machine

/-! ## The account with a record on its way -/

/-- The account of the entries, where `owed` counts the records of a key that have left the queue and whose completion is
still to reach the entry (R28, R38, R42). -/
def State.Accounts (s : State) (owed : Key → Nat) : Prop :=
  ∀ e ∈ s.table,
    e.pending = (s.link e.key.link).queuedFor e.key.station e.key.register + owed e.key ∧
    (e.state = .writing ↔ e.pending ≠ 0) ∧
    (e.state = .orphaned ↔ (s.station e.key.link e.key.station).isMissing = true)

/-- Nothing is on its way. -/
abbrev noneOwed : Key → Nat := fun _ => 0

/-- One record of a key is on its way. -/
def oneOwed (k : Key) : Key → Nat := fun x => if x = k then 1 else 0

theorem accounts_noneOwed_iff (s : State) : s.Accounts noneOwed ↔ s.AccountSound := .rfl

/-- Two columns with the same records queued for each key and the same stations MISSING. -/
structure Link.SameCounts (k j : Link) : Prop where
  queued : ∀ st reg, j.queuedFor st reg = k.queuedFor st reg
  missing : ∀ st, (j.station st).isMissing = (k.station st).isMissing

theorem Link.SameCounts.refl (k : Link) : k.SameCounts k := ⟨fun _ _ => rfl, fun _ => rfl⟩

theorem Link.SameCounts.trans {k j i : Link} (h : k.SameCounts j) (h' : j.SameCounts i) : k.SameCounts i :=
  ⟨fun st reg => (h'.queued st reg).trans (h.queued st reg), fun st => (h'.missing st).trans (h.missing st)⟩

/-- A state with the same counts and the same table keeps its account. -/
theorem State.Accounts.of_counts {s t : State} {owed : Key → Nat} (h : s.Accounts owed)
    (hlink : ∀ l, (s.link l).SameCounts (t.link l)) (htable : t.table = s.table) : t.Accounts owed := by
  intro e he
  rw [htable] at he
  obtain ⟨hpending, hwriting, horphaned⟩ := h e he
  exact ⟨by rw [(hlink _).queued, hpending], hwriting,
    horphaned.trans (by rw [State.station, State.station, (hlink _).missing])⟩

theorem State.Accounts.updLink {s : State} {owed : Key → Nat} (h : s.Accounts owed) {l : LinkNo} {f : Link → Link}
    (hf : (s.link l).SameCounts (f (s.link l))) : (s.updLink l f).Accounts owed := by
  refine h.of_counts (fun m => ?_) rfl
  rw [link_updLink]
  split
  next hm => exact hm ▸ hf
  next => exact .refl _

/-- An entry changed in nothing that the account speaks of. -/
structure Entry.SameAccount (e x : Entry) : Prop where
  key : x.key = e.key
  pending : x.pending = e.pending
  writing : x.state = .writing ↔ e.state = .writing
  orphaned : x.state = .orphaned ↔ e.state = .orphaned

theorem Entry.SameAccount.refl (e : Entry) : e.SameAccount e := ⟨rfl, rfl, .rfl, .rfl⟩

/-- A table changed entry by entry: the account holds when it holds of each entry after its change. -/
theorem accounts_entryEvent {s : State} {owed : Key → Nat} {p : Entry → Bool} {f : Entry → Entry × List Reason}
    (hf : ∀ e ∈ s.table,
      let x := if p e then (f e).1 else e
      x.pending = (s.link x.key.link).queuedFor x.key.station x.key.register + owed x.key ∧
      (x.state = .writing ↔ x.pending ≠ 0) ∧
      (x.state = .orphaned ↔ (s.station x.key.link x.key.station).isMissing = true)) :
    (s.entryEvent p f).Accounts owed := by
  intro x hx
  rw [entryEvent_table] at hx
  obtain ⟨e, he, rfl⟩ := List.mem_map.mp hx
  simpa only [State.station, entryEvent_link] using hf e he

/-- An event that changes nothing the account speaks of keeps it. -/
theorem State.Accounts.entryEvent {s : State} {owed : Key → Nat} (h : s.Accounts owed) (p : Entry → Bool)
    {f : Entry → Entry × List Reason} (hf : ∀ e : Entry, e.SameAccount (f e).1) : (s.entryEvent p f).Accounts owed := by
  refine accounts_entryEvent fun e he => ?_
  obtain ⟨hpending, hwriting, horphaned⟩ := h e he
  split
  · have hsame := hf e
    simp only [hsame.key, hsame.pending]
    exact ⟨hpending, hsame.writing.trans hwriting, hsame.orphaned.trans horphaned⟩
  · exact ⟨hpending, hwriting, horphaned⟩

/-! ## Transitions that the account does not see -/

theorem onReadResult_sameAccount (o : FinalOutcome) (e : Entry) : e.SameAccount (e.onReadResult o).1 := by
  cases o with
  | ack v =>
    simp only [Entry.onReadResult, Entry.onAck]
    cases hstate : e.state <;> constructor <;> simp [Entry.confirmed, hstate]
  | rejected =>
    simp only [Entry.onReadResult, Entry.onRejected]
    cases hstate : e.state <;> constructor <;> simp [hstate]
  | lost | corrupt | blocked =>
    simp only [Entry.onReadResult, Entry.onFailedRead]
    cases hstate : e.state <;> cases hfailing : e.failing <;> constructor <;> simp [hstate]
  | heldOff _ | ok | unknown | sent => exact .refl e

theorem onSent_sameAccount (e : Entry) : e.SameAccount e.onSent.1 := by
  unfold Entry.onSent
  cases hstate : e.state <;> constructor <;> simp [hstate]

theorem modified_sameAccount (e : Entry) (code : Fin 8) (phase : Fin 64) (mask : Value) (first : Bool) :
    e.SameAccount (e.modified code phase mask first) := by
  constructor <;> cases hstate : e.state <;> simp [Entry.modified, hstate]

theorem aged_sameAccount (e : Entry) : e.SameAccount e.aged := ⟨rfl, rfl, .rfl, .rfl⟩

/-! ## Counts of the queue -/

theorem queuedFor_eq (k : Link) (st : StationNo) (reg : RegNo) :
    k.queuedFor st reg = k.queue.countP (fun r => r.dest == .station st && r.register == reg) := rfl

/-- The counts look at where the records of a queue go, and at which stations are MISSING. -/
theorem sameCounts_of_eq {k j : Link} (hqueue : j.queue = k.queue) (hstations : j.stations = k.stations) :
    k.SameCounts j :=
  ⟨fun st reg => by rw [queuedFor_eq, queuedFor_eq, hqueue], fun st => by rw [Link.station, Link.station, hstations]⟩

theorem sameCounts_setStation (k : Link) (st : StationNo) {r : StationRecord}
    (hr : r.isMissing = (k.station st).isMissing) : k.SameCounts (k.setStation st r) := by
  refine ⟨fun _ _ => rfl, fun x => ?_⟩
  rw [station_setStation]
  split
  next hx => rw [hr, hx]
  next => rfl

theorem sameCounts_failDemand (k : Link) (st : StationNo) : k.SameCounts (k.failDemand st) := by
  rw [failDemand_frame]
  exact sameCounts_of_eq rfl rfl

theorem sameCounts_enterHeld (k : Link) (st : StationNo) (r : StationRecord) (h : Hold)
    (hst : (k.station st).isMissing = false) : k.SameCounts (k.enterHeld st r h) :=
  (sameCounts_setStation k st (by rw [hst]; rfl)).trans (sameCounts_failDemand _ st)

theorem sameCounts_enterHalted (k : Link) (why : HaltReason) : k.SameCounts (k.enterHalted why) := by
  rw [Link.enterHalted, dropWaiting_frame]
  exact sameCounts_of_eq rfl rfl

theorem sameCounts_enterStopping (k : Link) : k.SameCounts k.enterStopping := by
  rw [Link.enterStopping, dropWaiting_frame]
  exact sameCounts_of_eq rfl rfl

theorem sameCounts_demandTick (k : Link) : k.SameCounts k.demandTick := by
  unfold Link.demandTick
  split
  · split <;> exact sameCounts_of_eq rfl rfl
  all_goals exact .refl k

theorem sameCounts_countedDown (k : Link) (n : Nat) : k.SameCounts (k.countedDown n) := by
  have hoverrun : k.SameCounts (k.overrun n) := by
    unfold Link.overrun
    split <;> exact sameCounts_of_eq rfl rfl
  have htick : (k.overrun n).SameCounts (k.overrun n).holdTick :=
    ⟨fun _ _ => rfl, fun st => by
      rw [show (k.overrun n).holdTick.station st = _ from station_map_tick (k.overrun n) st, tick_isMissing]⟩
  exact (hoverrun.trans htick).trans (sameCounts_demandTick _)

theorem sameCounts_issue (s : State) (l : LinkNo) (g : Group) : (s.link l).SameCounts ((s.issue l g).link l) := by
  rw [State.issue, link_updLink_same]
  cases g with
  | write =>
    change (s.link l).SameCounts (s.link l).issueWrite
    unfold Link.issueWrite
    split
    · exact .refl _
    next r rest hqueue =>
      refine ⟨fun st reg => ?_, fun _ => rfl⟩
      rw [queuedFor_eq, queuedFor_eq, hqueue]
      simp only [Link.start, List.countP_cons]
  | demand =>
    change (s.link l).SameCounts (s.link l).issueDemand
    unfold Link.issueDemand
    split
    · exact sameCounts_of_eq rfl rfl
    all_goals exact .refl _
  | poll =>
    change (s.link l).SameCounts ((s.link l).issuePoll _)
    rw [issuePoll_frame]
    exact sameCounts_of_eq rfl rfl

theorem State.Accounts.arbitrate {s : State} {owed : Key → Nat} (h : s.Accounts owed) (l : LinkNo) :
    (s.arbitrate l).Accounts owed := by
  obtain ⟨-, hsame⟩ | ⟨-, -, -, hsame⟩ | ⟨g, -, -, -, -, hissue⟩ := arbitrate_cases s l
  · rwa [hsame]
  · rwa [hsame]
  · rw [hissue]
    have hcounts := sameCounts_issue s l g
    rw [State.issue, link_updLink_same] at hcounts
    exact h.updLink hcounts

/-! ## Losses and revivals -/

theorem enterHeld_queue (k : Link) (st : StationNo) (r : StationRecord) (h : Hold) :
    (k.enterHeld st r h).queue = k.queue := by
  rw [Link.enterHeld, failDemand_frame]
  rfl

theorem enterHeld_station (k : Link) (st : StationNo) (r : StationRecord) (h : Hold) (x : StationNo) :
    (k.enterHeld st r h).station x = (k.setStation st { r with standing := .held h }).station x := by
  rw [Link.enterHeld, failDemand_frame]
  rfl

/-- With no MISSING station's record queued, a MISSING station has none (R138, R128). -/
theorem queuedFor_of_missing {k : Link} (hq : k.QueueSound) {st : StationNo} (hst : (k.station st).isMissing = true)
    (reg : RegNo) : k.queuedFor st reg = 0 := by
  rw [queuedFor_eq, List.countP_eq_zero]
  intro w hw hmatch
  simp only [Bool.and_eq_true, beq_iff_eq] at hmatch
  exact absurd hst (Bool.eq_false_iff.mp (hq.2.1 w hw st hmatch.1))

/-- The loss of a station clears the account of its keys, and with it what was on its way to them (R42, R128). -/
theorem State.Accounts.loseStation {s : State} {owed : Key → Nat} (h : s.Accounts owed) {l : LinkNo} {st : StationNo}
    (howed : ∀ k : Key, ¬ (k.link = l ∧ k.station = st) → owed k = 0) :
    (s.loseStation l st).Accounts noneOwed := by
  refine accounts_entryEvent fun e he => ?_
  obtain ⟨hpending, hwriting, horphaned⟩ := h e he
  have hstation : ∀ x, ((((s.link l).setStation st
      { ((s.link l).station st).onSilence with standing := .missing }).failDemand st).station x).isMissing =
        if x = st then true else ((s.link l).station x).isMissing := fun x => by
    rw [failDemand_frame]
    change (((s.link l).setStation st _).station x).isMissing = _
    rw [station_setStation]
    split <;> rfl
  by_cases hown : e.key.link = l ∧ e.key.station = st
  · obtain ⟨rfl, rfl⟩ := hown
    have hof : Entry.ofStation e.key.link e.key.station e = true := by simp [Entry.ofStation]
    simp only [hof, if_true, Entry.onStationLost, State.station, link_updLink_same]
    refine ⟨?_, by simp, ?_⟩
    · rw [failDemand_frame, queuedFor_eq]
      symm
      simp only [Link.raise, Link.setStation, Nat.add_zero, List.countP_eq_zero, List.mem_filter]
      rintro w ⟨-, hw⟩ hmatch
      simp only [Bool.and_eq_true, beq_iff_eq] at hmatch
      simp [hmatch.1] at hw
    · rw [failDemand_frame]
      simp [Link.raise, Link.station, Link.setStation, StationRecord.isMissing]
  · have hof : Entry.ofStation l st e = false := by
      simp only [Entry.ofStation, Bool.and_eq_false_iff, beq_eq_false_iff_ne]
      tauto
    simp only [hof, Bool.false_eq_true, if_false]
    by_cases hlink : e.key.link = l
    · have hst : e.key.station ≠ st := fun hst => hown ⟨hlink, hst⟩
      rw [hlink] at hpending horphaned ⊢
      simp only [State.station, link_updLink_same]
      rw [failDemand_frame]
      refine ⟨?_, hwriting, ?_⟩
      · rw [hpending, howed e.key hown, queuedFor_eq, queuedFor_eq]
        simp only [Link.raise, Link.setStation, List.countP_filter]
        congr 1
        refine List.countP_congr fun w _ => ?_
        simp only [Bool.and_eq_true, beq_iff_eq, bne_iff_ne]
        constructor
        · rintro ⟨hdest, hreg⟩
          exact ⟨⟨hdest, hreg⟩, fun hlost => hst (Dest.station.inj (hdest.symm.trans hlost))⟩
        · exact And.left
      · rw [horphaned]
        change _ ↔ (((s.link l).setStation st _).station e.key.station).isMissing = true
        rw [station_setStation_ne _ _ hst]
        rfl
    · rw [howed e.key hown] at hpending
      simp only [State.station, link_updLink_ne s _ hlink]
      exact ⟨hpending, hwriting, horphaned⟩

/-- A MISSING station becomes some other, and its entries, all ORPHANED, become PRIMING (R44, R45). -/
theorem State.Accounts.revive {s : State} (h : s.Accounts noneOwed) {l : LinkNo} {st : StationNo} {f : Link → Link}
    {g : Entry → Entry × List Reason} (hst : (s.station l st).isMissing = true)
    (hqueue : (f (s.link l)).queue = (s.link l).queue)
    (hstation : ∀ x, ((f (s.link l)).station x).isMissing = (decide (x ≠ st) && ((s.link l).station x).isMissing))
    (hg : ∀ e : Entry, e.state = .orphaned → (g e).1 = { e with state := .priming }) :
    ((s.updLink l f).entryEvent (Entry.ofStation l st) g).Accounts noneOwed := by
  refine accounts_entryEvent fun e he => ?_
  obtain ⟨hpending, hwriting, horphaned⟩ := h e he
  have hqueued : ∀ x reg, (f (s.link l)).queuedFor x reg = (s.link l).queuedFor x reg := fun x reg => by
    rw [queuedFor_eq, hqueue, queuedFor_eq]
  by_cases hlink : e.key.link = l
  · rw [hlink] at hpending horphaned
    by_cases hown : e.key.station = st
    · have hof : Entry.ofStation l st e = true := by simp [Entry.ofStation, hlink, hown]
      have hstate : e.state = .orphaned := horphaned.mpr (hown ▸ hst)
      have hzero : e.pending = 0 := by simpa [hstate] using hwriting
      simp only [hof, if_true, hg e hstate, State.station, hlink, link_updLink_same, hqueued, hstation, hown]
      rw [hown] at hpending
      exact ⟨hpending, by simp [hzero], by simp⟩
    · have hof : Entry.ofStation l st e = false := by simp [Entry.ofStation, hown]
      simp only [hof, Bool.false_eq_true, if_false, State.station, hlink, link_updLink_same, hqueued, hstation, hown,
        ne_eq, not_false_eq_true, decide_true, Bool.true_and]
      exact ⟨hpending, hwriting, horphaned⟩
  · have hof : Entry.ofStation l st e = false := by simp [Entry.ofStation, hlink]
    simp only [hof, Bool.false_eq_true, if_false, State.station, link_updLink_ne s _ hlink]
    exact ⟨hpending, hwriting, horphaned⟩

theorem isMissing_setStation (k : Link) (st x : StationNo) {r : StationRecord} (hr : r.isMissing = false) :
    ((k.setStation st r).station x).isMissing = (decide (x ≠ st) && (k.station x).isMissing) := by
  rw [station_setStation]
  split
  next hx => simp [hr, hx]
  next hx => simp [hx]

theorem State.Accounts.findStation {s : State} (h : s.Accounts noneOwed) {l : LinkNo} {st : StationNo}
    (hst : (s.station l st).isMissing = true) (q : Option (BitVec 8)) :
    (s.findStation l st q).Accounts noneOwed := by
  refine h.revive hst ?_ (fun x => ?_) fun e hstate => by simp [Entry.onRevival, hstate]
  · cases q with
    | none => rfl
    | some x => exact enterHeld_queue ..
  · cases q with
    | none => exact isMissing_setStation _ st x rfl
    | some q =>
      simp only [raise_station, enterHeld_station]
      exact isMissing_setStation _ st x rfl

/-! ## Completion -/

/-- What the station table does with an outcome, with nothing on its way to an entry or with a loss that clears it. -/
theorem State.Accounts.holdEffect {s : State} (h : s.Accounts noneOwed) (l : LinkNo) (st : StationNo) (q : BitVec 8) :
    (s.holdEffect l st q).Accounts noneOwed := by
  have hfound : (s.station l st).standing ≠ .missing → ((s.link l).station st).isMissing = false :=
    fun hne => Bool.eq_false_iff.mpr fun hm => hne ((isMissing_iff _).mp hm)
  unfold State.holdEffect
  simp only
  split
  next hstanding => exact h.updLink (sameCounts_enterHeld _ _ _ _ (hfound (hstanding ▸ nofun)))
  next hstanding => exact h.updLink (sameCounts_enterHeld _ _ _ _ (hfound (hstanding ▸ nofun)))
  next => exact h.updLink (sameCounts_setStation _ st rfl)
  next => exact h.updLink (sameCounts_setStation _ st rfl)
  next n hstanding =>
    refine (State.Accounts.updLink (f := fun k => k.setStation st _) h (sameCounts_setStation _ st ?_)).of_counts
      (fun _ => .refl _) rfl
    exact (hfound (hstanding ▸ nofun)).symm

theorem State.Accounts.applyStation {s : State} (h : s.Accounts noneOwed) (l : LinkNo) (st : StationNo) (probe : Bool)
    (eff : StationEffect) : (s.applyStation l st probe eff).Accounts noneOwed := by
  unfold State.applyStation
  cases eff with
  | none => exact h
  | reply =>
    simp only
    split
    next hprobed => exact h.findStation (Bool.and_eq_true_iff.mp hprobed).2 none
    next => exact h.updLink (sameCounts_setStation _ st (onReply_isMissing _))
  | hold q =>
    simp only
    split
    next hprobed => exact h.findStation (Bool.and_eq_true_iff.mp hprobed).2 (some q)
    next => exact h.holdEffect l st q
  | silence =>
    simp only
    split
    next => exact h.loseStation fun _ _ => rfl
    next => exact h.updLink (sameCounts_setStation _ st (onSilence_isMissing _))

/-- The outcomes that take a write out of its queue (R142, R144). -/
abbrev FinalOutcome.endsWrite (o : FinalOutcome) : Prop :=
  o = .ok ∨ o = .rejected ∨ o = .blocked ∨ o = .unknown

/-- A write completion that lowers the pending count settles what was on its way (R38, R39). -/
theorem State.Accounts.completeWrite {s : State} {k : Key} (h : s.Accounts (oneOwed k)) {o : FinalOutcome}
    (ho : o.endsWrite) : (s.keyEvent k (Entry.onWriteCompletion o)).Accounts noneOwed := by
  refine accounts_entryEvent fun e he => ?_
  obtain ⟨hpending, hwriting, horphaned⟩ := h e he
  by_cases hk : e.key = k
  · simp only [hk, oneOwed, if_true] at hpending
    have hne : e.pending ≠ 0 := by omega
    have hstate := hwriting.mpr hne
    obtain ⟨bad, rs, hlowered⟩ : ∃ bad rs, e.onWriteCompletion o = (e.lowered bad, rs) := by
      obtain rfl | rfl | rfl | rfl := ho
      · exact ⟨false, [], if_neg hne⟩
      · exact ⟨true, [.writeFailed], if_neg hne⟩
      · exact ⟨true, [.writeFailed], if_neg hne⟩
      · exact ⟨true, [.writeUnknown], if_neg hne⟩
    have hnot : ((s.link k.link).station k.station).isMissing = false := by
      simpa [hstate, hk, State.station] using horphaned
    simp only [hk, beq_self_eq_true, if_true, hlowered, Entry.lowered, hstate, State.station, hnot]
    refine ⟨by simp only [noneOwed]; omega, ?_, ?_⟩ <;> by_cases hone : e.pending = 1 <;>
      simp only [hone, if_true, if_false]
    · split <;> simp
    · simp; omega
    · split <;> simp
    · simp
  · have hkey : (e.key == k) = false := by simp [hk]
    simp only [hkey, Bool.false_eq_true, if_false]
    simp only [oneOwed, hk, if_false] at hpending
    exact ⟨hpending, hwriting, horphaned⟩

/-- With nothing pending a write completion changes nothing (R38). -/
theorem State.Accounts.completeCleared {s : State} (h : s.Accounts noneOwed) {k : Key} (o : FinalOutcome)
    (hzero : ∀ e ∈ s.table, e.key = k → e.pending = 0) :
    (s.keyEvent k (Entry.onWriteCompletion o)).Accounts noneOwed := by
  refine accounts_entryEvent fun e he => ?_
  by_cases hk : e.key = k
  · simpa [hk, Entry.onWriteCompletion, hzero e he hk] using h e he
  · simpa [hk] using h e he

/-- An outcome that settles no write at the table changes nothing of the account there. -/
theorem State.Accounts.applyTable {s : State} (h : s.Accounts noneOwed) (l : LinkNo) {tx : Transaction}
    {o : FinalOutcome} (ho : tx.isRead = true ∨ tx.isBroadcast = true ∨ ∃ q, o = .heldOff q) :
    (s.applyTable l tx o).Accounts noneOwed := by
  cases tx with
  | poll | demandRead => exact h.entryEvent _ (onReadResult_sameAccount o)
  | probe => exact h
  | write st reg d =>
    obtain ⟨q, rfl⟩ : ∃ q, o = .heldOff q := by simpa [Transaction.isRead, Transaction.isBroadcast] using ho
    refine h.entryEvent _ fun e => ?_
    unfold Entry.onWriteCompletion
    split <;> exact .refl e
  | broadcast reg d =>
    simp only [State.applyTable]
    split
    · exact h.entryEvent _ onSent_sameAccount
    · exact h

/-- The loss of a station leaves nothing pending at its entries (R42). -/
theorem loseStation_pending (s : State) (l : LinkNo) (st : StationNo) :
    ∀ e ∈ (s.loseStation l st).table, e.key.link = l → e.key.station = st → e.pending = 0 := by
  intro x hx hlink hst
  rw [State.loseStation, entryEvent_table] at hx
  obtain ⟨e, -, rfl⟩ := List.mem_map.mp hx
  split at hlink
  next hp => rw [if_pos hp]; rfl
  next hp =>
    rw [if_neg hp] at hst
    exact absurd (by simp [Entry.ofStation, hlink, hst]) hp

/-- An outcome routed in one of the two orders, where nothing is on its way (R102). -/
theorem State.Accounts.route {s : State} (h : s.Accounts noneOwed) (l : LinkNo) {tx : Transaction} {o : FinalOutcome}
    (ho : tx.isRead = true ∨ tx.isBroadcast = true ∨ ∃ q, o = .heldOff q) (c : AttemptClass) (first : Bool) :
    (s.route l tx o c first).Accounts noneOwed := by
  unfold State.route
  split
  · exact h.applyTable l ho
  · split
    · exact (h.applyStation l _ _ _).applyTable l ho
    · exact (h.applyTable l ho).applyStation l _ _ _

/-- A write that has left its queue: the completion reaches its entry before the station table, or after a loss that has
cleared the entry (R38, R42, R43). -/
theorem State.Accounts.routeWrite {s : State} {l : LinkNo} {st : StationNo} {reg : RegNo}
    (h : s.Accounts (oneOwed ⟨l, st, reg⟩)) (d : Value) {o : FinalOutcome} (ho : o.endsWrite) (c : AttemptClass) :
    (s.routeFree l (.write st reg d) o c).Accounts noneOwed := by
  have htable : ∀ eff, ((s.applyTable l (.write st reg d) o).applyStation l st false eff).Accounts noneOwed :=
    fun eff => State.Accounts.applyStation (h.completeWrite ho) l st false eff
  unfold State.routeFree
  simp only [Transaction.station?]
  split
  next hloses =>
    cases hfirst : Config.lossFirst s.choices with
    | false => exact htable _
    | true =>
      obtain ⟨heff, hlost⟩ := Bool.and_eq_true_iff.mp hloses
      have hlose : s.applyStation l st false (stationEffect o c) = s.loseStation l st := by
        simp only [State.applyStation, eq_of_beq heff, hlost, if_true]
      have hcleared : (s.loseStation l st).Accounts noneOwed := h.loseStation fun k hk => by
        simp only [oneOwed, ite_eq_right_iff]
        rintro rfl
        exact absurd ⟨rfl, rfl⟩ hk
      have hdone := hcleared.completeCleared (k := ⟨l, st, reg⟩) o fun e he hk =>
        loseStation_pending s l st e he (by rw [hk]) (by rw [hk])
      simp only [State.route, Transaction.station?, Transaction.isProbe, if_true, hlose]
      exact hdone
  next => exact htable _

/-- The class of an attempt of a write to a station is none of a broadcast. -/
theorem classify_ne_sentWhole {tx : Transaction} (htx : tx.isBroadcast = false) (whole : Bool) (sld : List Bool) :
    classify tx whole sld ≠ .sentWhole := by
  unfold classify
  split
  · nofun
  · simp only [htx, Bool.false_eq_true, if_false]
    unfold replyClass
    simp only
    split_ifs <;> nofun

theorem outcome_endsWrite {tx : Transaction} {c : AttemptClass} (hwrite : tx.isRead = false) (hc : c ≠ .sentWhole) :
    (c.outcome tx).endsWrite ∨ ∃ q, c.outcome tx = .heldOff q := by
  cases c <;> simp_all [AttemptClass.outcome, FinalOutcome.endsWrite]

/-- The counts after a completion that leaves the records of each key as many as they were. -/
theorem sameCounts_settle {k : Link} (hq : k.QueueSound) {tx : Transaction} (hf : k.inFlight = some tx)
    {o : FinalOutcome} (ho : tx.isRead = true ∨ tx.isBroadcast = true ∨ ∃ q, o = .heldOff q) :
    k.SameCounts (k.settle tx o) := by
  refine ⟨fun st reg => ?_, fun st => by rw [settle_eq]; rfl⟩
  rw [settle_eq, queuedFor_eq, queuedFor_eq]
  simp only [settledQueue]
  split
  next => rfl
  next hwrite =>
    obtain ⟨r, rest, hr, hflag, hqueue, -⟩ := hq.head_of_write hf (by simpa using hwrite)
    split
    next => rw [List.countP_map]; rfl
    next hnot =>
      obtain hread | hbroadcast | ⟨q, rfl⟩ := ho
      · exact absurd hread hwrite
      · rw [hqueue, List.eraseP_cons_of_pos hflag, List.countP_cons_of_neg]
        cases tx with
        | broadcast => rw [← Option.some.inj hr]; simp
        | _ => cases hbroadcast
      · exact absurd rfl (hnot q)

/-- A write that completes leaves the queue, and its completion is on its way to the entry. -/
theorem State.Accounts.settleWrite {s : State} (h : s.Accounts noneOwed) {l : LinkNo} (hq : (s.link l).QueueSound)
    {st : StationNo} {reg : RegNo} {d : Value} (hf : (s.link l).inFlight = some (.write st reg d)) {o : FinalOutcome}
    (ho : o.endsWrite) :
    (s.updLink l (fun k => k.settle (.write st reg d) o)).Accounts (oneOwed ⟨l, st, reg⟩) := by
  obtain ⟨r, rest, hr, hflag, hqueue, -⟩ := hq.head_of_write hf rfl
  have hrest : settledQueue (.write st reg d) o (s.link l).queue = rest := by
    rw [hqueue]
    obtain rfl | rfl | rfl | rfl := ho <;> exact List.eraseP_cons_of_pos hflag
  obtain rfl : (⟨.station st, reg, d, true⟩ : WriteRecord) = r := Option.some.inj hr
  intro e he
  obtain ⟨hpending, hwriting, horphaned⟩ := h e he
  by_cases hlink : e.key.link = l
  · rw [hlink] at hpending horphaned ⊢
    simp only [State.station, link_updLink_same, settle_eq, queuedFor_eq, hrest]
    refine ⟨?_, hwriting, horphaned⟩
    rw [hpending, queuedFor_eq, hqueue, List.countP_cons]
    have hone : oneOwed ⟨l, st, reg⟩ e.key =
        if (Dest.station st == Dest.station e.key.station && reg == e.key.register) = true then 1 else 0 := by
      obtain ⟨⟨kl, ks, kr⟩, _⟩ := e
      simp only at hlink
      subst hlink
      simp only [oneOwed, Key.mk.injEq, Bool.and_eq_true, beq_iff_eq, Dest.station.injEq, true_and]
      simp only [eq_comm]
    rw [hone]
    rfl
  · simp only [State.station, link_updLink_ne s _ hlink]
    have hnone : oneOwed ⟨l, st, reg⟩ e.key = 0 := if_neg fun hk => hlink (by rw [hk])
    exact ⟨by rw [hnone]; exact hpending, hwriting, horphaned⟩

theorem State.Accounts.afterCompletion {s : State} (h : s.Accounts noneOwed) (l : LinkNo) :
    (s.afterCompletion l).Accounts noneOwed := by
  unfold State.afterCompletion
  split
  · exact h.updLink (sameCounts_enterHalted _ _)
  · split
    · exact h.updLink (sameCounts_enterHalted _ _)
    · exact h.arbitrate l

/-- A completion keeps the account (R38, R42, R43, R102). -/
theorem State.Accounts.complete {s : State} (h : s.Accounts noneOwed) {l : LinkNo} (hq : (s.link l).QueueSound)
    {tx : Transaction} (hf : (s.link l).inFlight = some tx) {c : AttemptClass}
    (hc : tx.isBroadcast = false → c ≠ .sentWhole) : (s.complete l tx (c.outcome tx) c).Accounts noneOwed := by
  refine State.Accounts.afterCompletion ?_ l
  by_cases ho : tx.isRead = true ∨ tx.isBroadcast = true ∨ ∃ q, c.outcome tx = .heldOff q
  · have hsettled := h.updLink (f := fun k => k.settle tx (c.outcome tx)) (sameCounts_settle hq hf ho)
    unfold State.routeFree
    split
    · exact hsettled.route l ho c false
    · split
      · exact hsettled.route l ho c (Config.lossFirst _)
      · exact hsettled.route l ho c false
  · simp only [not_or, Bool.not_eq_true] at ho
    obtain ⟨hwrite, hstation, hheld⟩ := ho
    have hends := (outcome_endsWrite hwrite (hc hstation)).resolve_right hheld
    cases tx with
    | write st reg d => exact (h.settleWrite hq hf hends).routeWrite d hends c
    | broadcast => cases hstation
    | _ => cases hwrite

/-! ## Every move -/

/-- What the account rests on: sound columns. -/
abbrev State.ColumnsAndAccount (s : State) : Prop := s.ColumnSound ∧ s.Accounts noneOwed

theorem State.Accounts.of_sublist {s t : State} (h : s.Accounts noneOwed) (hlink : ∀ l, t.link l = s.link l)
    (htable : ∀ e ∈ t.table, e ∈ s.table) : t.Accounts noneOwed := by
  intro e he
  simpa only [State.station, hlink] using h e (htable e he)

/-- The entry that WATCH creates joins the account (R10). -/
theorem State.Accounts.insert {s : State} (h : s.Accounts noneOwed) (hs : s.ColumnSound) (k : Key) (pos : Nat)
    (code : Fin 8) (phase : Fin 64) (mask : Value) (first : Bool) :
    ({ s with table := insertEntry (s.newEntry k pos code phase mask first) s.table } : State).Accounts noneOwed := by
  intro e he
  obtain rfl | he := (mem_insertEntry _ e _).mp he
  · have hmissing : ((s.link k.link).station k.station).isMissing = true →
        (s.link k.link).queuedFor k.station k.register = 0 := fun hm => queuedFor_of_missing (hs k.link).2.1 hm _
    change (s.newEntry k pos code phase mask first).pending =
        (s.link k.link).queuedFor k.station k.register + 0 ∧ _ ∧
      (_ ↔ ((s.link k.link).station k.station).isMissing = true)
    cases hm : ((s.link k.link).station k.station).isMissing with
    | true => simp [State.newEntry, hm, hmissing hm]
    | false =>
      by_cases hzero : (s.link k.link).queuedFor k.station k.register = 0 <;> simp [State.newEntry, hm, hzero]
  · exact h e he

/-- A write taken into the queue is one more pending at the entry of its key (R37, R138). -/
theorem State.Accounts.enqueued {s : State} (h : s.Accounts noneOwed) {l : LinkNo} {d : Dest} {reg : RegNo}
    {data : Value} (hfound : s.toMissing l d = false) : (s.enqueued l d reg data).Accounts noneOwed := by
  cases d with
  | broadcast =>
    refine State.Accounts.updLink (f := fun k => { k with queue := k.queue ++ [⟨.broadcast, reg, data, false⟩] }) h
      ⟨fun st r => ?_, fun _ => rfl⟩
    rw [queuedFor_eq, queuedFor_eq, List.countP_append]
    simp
  | station st =>
    refine accounts_entryEvent fun e he => ?_
    obtain ⟨hpending, hwriting, horphaned⟩ := h e he
    have hqueued : ∀ x r,
        ({ s.link l with queue := (s.link l).queue ++ [⟨.station st, reg, data, false⟩] } : Link).queuedFor x r =
          (s.link l).queuedFor x r + if st = x ∧ reg = r then 1 else 0 := fun x r => by
      rw [queuedFor_eq, queuedFor_eq, List.countP_append]
      by_cases hx : st = x <;> by_cases hr : reg = r <;> simp [hx, hr]
    by_cases hlink : e.key.link = l
    · rw [hlink] at hpending horphaned
      by_cases hk : e.key = ⟨l, st, reg⟩
      · have hnot : ((s.link l).station st).isMissing = false := hfound
        simp only [hk] at hpending
        simp only [hk, beq_self_eq_true, if_true, Entry.onEnqueue, State.station, link_updLink_same, hqueued]
        refine ⟨by simpa using hpending, by simp, ?_⟩
        change _ ↔ ((s.link l).station st).isMissing = true
        simp [hnot]
      · have hne : ¬ (st = e.key.station ∧ reg = e.key.register) := by
          rintro ⟨rfl, rfl⟩
          exact hk (by rw [← hlink])
        have hkey : (e.key == ⟨l, st, reg⟩) = false := by simp [hk]
        simp only [hkey, Bool.false_eq_true, if_false, State.station, hlink, link_updLink_same, hqueued, hne]
        exact ⟨hpending, hwriting, horphaned⟩
    · have hkey : (e.key == ⟨l, st, reg⟩) = false := by
        simp only [beq_eq_false_iff_ne]
        rintro hk
        exact hlink (by rw [hk])
      simp only [hkey, Bool.false_eq_true, if_false, State.station, link_updLink_ne s _ hlink]
      exact ⟨hpending, hwriting, horphaned⟩

/-- A link reset empties the queue and forgets the losses, and its entries follow (R46). -/
theorem State.Accounts.resetLink {s : State} (h : s.Accounts noneOwed) (l : LinkNo) :
    (s.resetLink l).Accounts noneOwed := by
  refine accounts_entryEvent fun e he => ?_
  obtain ⟨hpending, hwriting, horphaned⟩ := h e he
  by_cases hlink : e.key.link = l
  · have hempty : ∀ st reg, (s.link l).afterReset.queuedFor st reg = 0 := fun _ _ => rfl
    have hfound : ∀ st, ((s.link l).afterReset.station st).isMissing = false := fun st => by
      simp [Link.afterReset, Link.station, StationRecord.reset, StationRecord.isMissing]
    cases hstate : e.state <;> simp_all [Entry.onLinkReset, State.station]
  · have hkey : (e.key.link == l) = false := by simp [hlink]
    simp only [hkey, Bool.false_eq_true, if_false, State.station, link_updLink_ne s _ hlink]
    exact ⟨hpending, hwriting, horphaned⟩

theorem sameCounts_endHold {k : Link} {st : StationNo} (held : (k.station st).isHeld = true) :
    k.SameCounts (k.setStation st (k.station st).afterHold) := by
  refine sameCounts_setStation k st ?_
  obtain ⟨h, hstanding⟩ := (isHeld_iff _).mp held
  rw [afterHold_isMissing]
  simp [StationRecord.isMissing, hstanding]

theorem QuietMove.accounts {s t : State} (h : QuietMove s t) (ha : s.Accounts noneOwed) :
    t.Accounts noneOwed := by
  cases h with
  | remove p =>
    rw [removeEntries_eq_withoutKeys]
    exact ha.of_sublist (fun _ => rfl) fun e he => (List.mem_filter.mp he).1
  | modify k code phase mask first legal =>
    exact (ha.entryEvent _ (f := fun x => (x.modified code phase mask first, []))
      fun e => modified_sameAccount e code phase mask first).arbitrate k.link
  | hold l st n range found => exact ha.updLink (sameCounts_enterHeld _ _ _ _ found)
  | release l st held => exact (ha.updLink (sameCounts_endHold held)).arbitrate l
  | forget l st missing =>
    refine State.Accounts.arbitrate
      (ha.revive missing rfl (fun x => isMissing_setStation _ st x rfl) fun e hstate => ?_) l
    simp [Entry.onForget, hstate]
  | runAfresh l high idle =>
    rw [ranAfresh_eq_updLink]
    exact State.Accounts.arbitrate (ha.updLink (sameCounts_of_eq rfl rfl)) l
  | stop l running =>
    refine ha.updLink ?_
    split
    · exact sameCounts_enterStopping _
    · exact sameCounts_enterHalted _ _
  | resetLink l => exact ha.resetLink l
  | demand key running heeded empty => exact (ha.updLink (sameCounts_of_eq rfl rfl)).arbitrate key.link
  | take r rest oldest => rw [oldestLost_eq]; exact ha.of_sublist (fun _ => rfl) fun _ => id
  | newLinger linger => rw [oldestLost_eq]; exact ha.of_sublist (fun _ => rfl) fun _ => id
  | pinLow => exact nofun
  | pinHigh low =>
    refine ha.of_counts (fun l => ?_) ?_
    · rw [link_pinHigh low]
      exact sameCounts_of_eq rfl rfl
    · rw [State.pinHigh, if_pos low]
  | slotTick l running =>
    have hticked : (s.tickOwners l).Accounts noneOwed := by
      rw [tickOwners_eq_event]
      refine State.Accounts.entryEvent (ha.updLink ?_) _ aged_sameAccount
      exact (sameCounts_countedDown _ _).trans (sameCounts_of_eq rfl rfl)
    rw [State.slotTick, if_pos running]
    exact State.Accounts.arbitrate (hticked.updLink (sameCounts_of_eq rfl rfl)) l
  | holdExpiry l st held =>
    exact State.Accounts.arbitrate (ha.updLink ((sameCounts_endHold held).trans (sameCounts_of_eq rfl rfl))) l
  | demandExpiry l => exact ha.updLink (sameCounts_demandTick _)
  | runOn | configure | setSlot | setPosition | deliver | events | rested | retryGap | requestSent =>
    exact ha.updLink (sameCounts_of_eq rfl rfl)
  | port | noticeSettings | lingerExpiry => exact ha

theorem Move.accounts {s t : State} (h : Move s t) (hs : s.ColumnSound) (ha : s.Accounts noneOwed) :
    t.Accounts noneOwed := by
  cases h with
  | quiet h => exact h.accounts ha
  | watch k w code phase mask first legal unwatched free =>
    exact (ha.insert hs k _ code phase mask first).arbitrate k.link
  | accept l d reg data on found room =>
    rw [acceptWrite_eq]
    exact (ha.enqueued found).arbitrate l
  | complete l tx sld c inFlight _ class_eq =>
    exact ha.complete (hs l).2.1 inFlight fun htx => class_eq ▸ classify_ne_sentWhole htx _ _

theorem StepMove.columnsAndAccount {s t : State} (h : StepMove s t) (hs : s.ColumnsAndAccount) :
    t.ColumnsAndAccount := by
  obtain ⟨hc, ha⟩ := hs
  refine ⟨h.columnSound hc, ?_⟩
  cases h with
  | move h => exact h.accounts hc ha
  | advance =>
    refine ha.of_counts (fun l => ?_) rfl
    rw [link_advanceTimers, slotAdvance_frame, lineAdvance_frame]
    exact sameCounts_of_eq rfl rfl
  | openWindow | lengthen => exact ha.updLink (sameCounts_of_eq rfl rfl)
  | queue | choices => exact ha

/-- Settles O56: every move of a step keeps the account, on columns that it keeps sound. -/
theorem stepKeepsTheAccount : Obligations.StepKeepsTheAccount := by
  unfold Obligations.StepKeepsTheAccount
  intro s t _ hc ha h
  have hkept := step_keeps (P := State.ColumnsAndAccount) (fun _ _ hmove => hmove.columnsAndAccount)
    ⟨hc, (accounts_noneOwed_iff s).mpr ha⟩ h
  exact (accounts_noneOwed_iff t).mp hkept.2

end Sys2Proof.Machine
end

section
/-! PROOFS. The law of the arbiter (04, 05): no group is left eligible on a free line, since every event that can make one
eligible ends with a pick of its link, and the other links see nothing of it. -/

namespace Sys2Proof.Machine

/-! ## Entries found after an event -/

/-- Among entries changed in place, a key finds its entry changed. -/
theorem find_map (s : State) {g : Entry → Entry} (hg : ∀ e, (g e).key = e.key) (k : Key) :
    ({ s with table := s.table.map g } : State).find k = (s.find k).map g := by
  simp only [State.find, List.find?_map]
  congr 2
  funext e
  simp [hg]

theorem find_entryEvent (s : State) {p : Entry → Bool} {f : Entry → Entry × List Reason}
    (hf : ∀ e, (f e).1.key = e.key) (k : Key) :
    (s.entryEvent p f).find k = (s.find k).map (fun e => if p e then (f e).1 else e) := by
  rw [← find_map s (g := fun e => if p e then (f e).1 else e) (fun e => by split <;> simp [hf])]
  simp only [State.find, entryEvent_table]

theorem find_some_key {s : State} {k : Key} {e : Entry} (h : s.find k = some e) : e.key = k :=
  eq_of_beq (List.find?_some (p := fun x : Entry => x.key == k) h)

/-- A new entry is found under no other key. -/
theorem find?_insertEntry {e : Entry} {p : Entry → Bool} (hp : p e = false) (es : List Entry) :
    (insertEntry e es).find? p = es.find? p := by
  induction es with
  | nil => simp [insertEntry, hp]
  | cons x xs ih =>
    unfold insertEntry
    split
    · simp [hp]
    · simp [List.find?_cons, ih]

/-- Entries that leave are no longer found, and the others are found as before. -/
theorem find_withoutKeys (s : State) (p : Key → Bool) (k : Key) :
    (s.withoutKeys p).find k = if p k then none else s.find k := by
  have hfind : (s.withoutKeys p).find k = s.table.find? (fun e => !p k && e.key == k) := by
    simp only [State.find, State.withoutKeys, List.find?_filter]
    congr 1
    funext e
    by_cases hk : e.key = k <;> simp [hk]
  rw [hfind]
  cases p k <;> simp [State.find]

/-! ## The capture polls keys of its link -/

@[simp] theorem mem_insertKey (k x : Key) (ks : List Key) : x ∈ insertKey k ks ↔ x = k ∨ x ∈ ks := by
  induction ks with
  | nil => simp [insertKey]
  | cons y ys ih =>
    unfold insertKey
    split
    · simp
    · simp only [List.mem_cons, ih]
      tauto

@[simp] theorem mem_inCaptureOrder (x : Key) (ks : List Key) : x ∈ inCaptureOrder ks ↔ x ∈ ks := by
  induction ks with
  | nil => rfl
  | cons y ys ih =>
    rw [show inCaptureOrder (y :: ys) = insertKey y (inCaptureOrder ys) from rfl, mem_insertKey, ih, List.mem_cons]

theorem mem_pollTargets (s : State) (l : LinkNo) (position : Fin 64) (k : Key) :
    k ∈ s.pollTargets l position ↔
      ∃ e ∈ s.table, (e.key.link = l ∧ e.dueAt position = true ∧ (s.station l e.key.station).leftAlone = false) ∧
        e.key = k := by
  simp [State.pollTargets, List.mem_map, List.mem_filter, and_assoc]

theorem link_of_poll_mem_capture {s : State} {l : LinkNo} {position : Fin 64} {k : Key}
    (h : BatchItem.poll k ∈ s.capture l position) : k.link = l := by
  rw [State.capture, List.mem_append] at h
  obtain h | h := h
  · split at h
    · simp at h
    · cases h
  · obtain ⟨x, hx, hxk⟩ := List.mem_map.mp h
    obtain rfl := BatchItem.poll.inj hxk
    obtain ⟨e, -, ⟨hlink, -, -⟩, rfl⟩ := (mem_pollTargets s l position x).mp hx
    exact hlink

/-! ## The law of one link -/

/-- The polls of a batch name keys of link `l` (R69). -/
abbrev BatchNames (l : LinkNo) (batch : List BatchItem) : Prop := ∀ k, BatchItem.poll k ∈ batch → k.link = l

/-- The law of the arbiter at one link (R98). -/
def State.ArbitratedAt (s : State) (l : LinkNo) : Prop :=
  ((s.link l).state = .running → (s.link l).inFlight = none → ∀ g, s.eligible l g = false) ∧
  ((s.link l).state = .stopping → (s.link l).inFlight ≠ none) ∧
  BatchNames l (s.link l).batch

theorem arbiterSound_iff (s : State) : s.ArbiterSound ↔ ∀ l, s.ArbitratedAt l := .rfl

/-- What passes the draw-time checks depends on the stations of the link and on the entries that drawable keys find. -/
theorem passes_of_passes {s t : State} {l : LinkNo} (hstation : ∀ st, (t.station l st).leftAlone = false →
      (s.station l st).leftAlone = false) (hmissing : ∀ st, (t.station l st).isMissing = (s.station l st).isMissing)
    {i : BatchItem} (hfind : ∀ k e, i = .poll k → t.find k = some e → s.find k = some e) (h : t.passes l [] i = true) :
    s.passes l [] i = true := by
  cases i with
  | probe st => exact (hmissing st).symm.trans h
  | poll k =>
    simp only [State.passes, List.contains_nil, Bool.not_false, Bool.and_true] at h ⊢
    split at h
    next e he =>
      obtain ⟨hdraw, halone⟩ := Bool.and_eq_true_iff.mp h
      simp only [hfind k e rfl he, hdraw, Bool.true_and]
      simpa using hstation _ (by simpa using halone)
    next => cases h

/-- A link that is no nearer to a pick than before is as well served. -/
theorem State.ArbitratedAt.of_less {s t : State} {l : LinkNo} (h : s.ArbitratedAt l)
    (hstate : (t.link l).state = (s.link l).state) (hflight : (t.link l).inFlight = (s.link l).inFlight)
    (hbatch : (t.link l).batch = (s.link l).batch)
    (hwrite : (t.link l).writeEligible = true → (s.link l).writeEligible = true)
    (hdemand : (t.link l).demandEligible = true → (s.link l).demandEligible = true)
    (hpoll : ∀ i ∈ (s.link l).batch, t.passes l [] i = true → s.passes l [] i = true) : t.ArbitratedAt l := by
  obtain ⟨hidle, hstopping, hnames⟩ := h
  refine ⟨fun hrun hfree g => Bool.eq_false_iff.mpr fun hg => ?_, fun hs => ?_, by rwa [BatchNames, hbatch]⟩
  · have hnot := hidle (hstate ▸ hrun) (hflight ▸ hfree)
    cases g with
    | write => exact absurd (hwrite hg) (Bool.eq_false_iff.mp (hnot .write))
    | demand => exact absurd (hdemand hg) (Bool.eq_false_iff.mp (hnot .demand))
    | poll =>
      obtain ⟨i, hi, hpass⟩ := List.any_eq_true.mp hg
      rw [hbatch] at hi
      exact absurd (List.any_eq_true.mpr ⟨i, hi, hpoll i hi hpass⟩) (Bool.eq_false_iff.mp (hnot .poll))
  · rw [hflight]
    exact hstopping (hstate ▸ hs)

/-- A link whose column is the same, and whose keys find no entry they did not find, is as well served. -/
theorem State.ArbitratedAt.of_link {s t : State} {l : LinkNo} (h : s.ArbitratedAt l) (hlink : t.link l = s.link l)
    (hfind : ∀ k e, k.link = l → t.find k = some e → s.find k = some e) : t.ArbitratedAt l := by
  have hstation : ∀ st, t.station l st = s.station l st := fun st => by simp only [State.station, hlink]
  refine h.of_less (by rw [hlink]) (by rw [hlink]) (by rw [hlink]) (by rw [hlink]; exact id) (by rw [hlink]; exact id)
    fun i hi hpass => ?_
  refine passes_of_passes (fun st => by rw [hstation]; exact id) (fun st => by rw [hstation]) ?_ hpass
  rintro k e rfl
  exact hfind k e (h.2.2 k hi)

/-- A link that cannot pick is well served. -/
theorem arbitratedAt_of_not_free {s : State} {l : LinkNo}
    (hfree : (s.link l).state = .running → (s.link l).inFlight ≠ none)
    (hstopping : (s.link l).state = .stopping → (s.link l).inFlight ≠ none) (hnames : BatchNames l (s.link l).batch) :
    s.ArbitratedAt l := ⟨fun hrun hnone => absurd hnone (hfree hrun), hstopping, hnames⟩

/-- A pick serves every group in turn (R98). -/
theorem mem_cycleAfter (g x : Group) : x ∈ g.cycleAfter := by cases g <;> cases x <;> decide

/-- An eligible group hands over a transaction (R97, R99). -/
theorem inFlight_issue {s : State} {l : LinkNo} {g : Group} (h : s.eligible l g = true) :
    ((s.issue l g).link l).inFlight ≠ none := by
  rw [State.issue, link_updLink_same]
  cases g with
  | write =>
    simp only [State.eligible, Link.writeEligible] at h
    simp only [Link.issueWrite]
    split at h
    · cases h
    next => simp [Link.start]
  | demand =>
    simp only [State.eligible, Link.demandEligible] at h
    simp only [Link.issueDemand]
    split at h
    · simp [Link.start]
    all_goals cases h
  | poll =>
    obtain ⟨i, hi, hpass⟩ := List.any_eq_true.mp h
    simp only [Link.issuePoll]
    split
    next hdrop => simpa [hpass] using List.dropWhile_eq_nil_iff.mp hdrop i hi
    next => simp [Link.start]

/-- A pick draws from the batch and adds nothing to it (R78). -/
theorem batch_issue (s : State) (l : LinkNo) (g : Group) :
    ∀ i ∈ ((s.issue l g).link l).batch, i ∈ (s.link l).batch := by
  rw [State.issue, link_updLink_same]
  cases g with
  | write =>
    simp only [Link.issueWrite]
    split <;> exact fun _ => id
  | demand =>
    simp only [Link.issueDemand]
    split <;> exact fun _ => id
  | poll =>
    obtain hsame | ⟨i, rest, -, -, hrest, hissue⟩ := issuePoll_cases (s.link l) (s.passes l [])
    · simp [hsame]
    · rw [hissue]
      exact hrest

/-- After a pick the link is well served (R98). -/
theorem arbitratedAt_arbitrate {s : State} {l : LinkNo}
    (hstopping : (s.link l).state = .stopping → (s.link l).inFlight ≠ none) (hnames : BatchNames l (s.link l).batch) :
    (s.arbitrate l).ArbitratedAt l := by
  obtain ⟨hbusy, hsame⟩ | ⟨-, -, hnone, hsame⟩ | ⟨g, -, -, -, helig, hissue⟩ := arbitrate_cases s l
  · rw [hsame]
    exact ⟨fun hrun hfree => absurd hfree (hbusy.resolve_left (not_not_intro hrun)), hstopping, hnames⟩
  · rw [hsame]
    refine ⟨fun _ _ g => ?_, hstopping, hnames⟩
    exact Bool.eq_false_iff.mpr (List.find?_eq_none.mp hnone g (mem_cycleAfter _ g))
  · rw [hissue]
    have hflight := inFlight_issue helig
    exact arbitratedAt_of_not_free (fun _ => hflight) (fun _ => hflight) fun k hk => hnames k (batch_issue s l g _ hk)

/-! ## What one link does, and the others -/

/-- What a link does leaves the columns of the others, and the entries their keys find. -/
structure State.OthersKept (s t : State) (l : LinkNo) : Prop where
  link : ∀ m, m ≠ l → t.link m = s.link m
  find : ∀ k, k.link ≠ l → t.find k = s.find k

theorem LinkAct.find_ne {l : LinkNo} {s t : State} (h : LinkAct l s t) {k : Key} (hk : k.link ≠ l) :
    t.find k = s.find k := by
  cases h with
  | column f => rfl
  | choices n => rfl
  | event p f own keeps =>
    rw [find_entryEvent s (fun e => (keeps e).key)]
    cases hfound : s.find k with
    | none => rfl
    | some e =>
      have hnot : p e = false := Bool.eq_false_iff.mpr fun hp => hk (find_some_key hfound ▸ own e hp)
      simp [hnot]

theorem LinkActs.othersKept {l : LinkNo} {s t : State} (h : LinkActs l s t) : s.OthersKept t l := by
  refine ⟨fun m => h.link_ne, fun k hk => ?_⟩
  induction h with
  | refl => rfl
  | tail _ hact ih => exact (hact.find_ne hk).trans ih

/-- What a link does leaves the law in force when it holds there afterwards. -/
theorem State.ArbiterSound.of_othersKept {s t : State} (h : s.ArbiterSound) {l : LinkNo} (hothers : s.OthersKept t l)
    (hl : t.ArbitratedAt l) : t.ArbiterSound := by
  rw [arbiterSound_iff] at h ⊢
  intro m
  by_cases hm : m = l
  · exact hm ▸ hl
  · exact (h m).of_link (hothers.link m hm) fun k e hk => (hothers.find k (hk ▸ hm)) ▸ id

/-- What a link does, followed by a pick of that link. -/
theorem State.ArbiterSound.arbitrate {s u : State} (h : s.ArbiterSound) {l : LinkNo} (hothers : s.OthersKept u l)
    (hstopping : (u.link l).state = .stopping → (u.link l).inFlight ≠ none) (hnames : BatchNames l (u.link l).batch) :
    (u.arbitrate l).ArbiterSound := by
  have hpick : u.OthersKept (u.arbitrate l) l := (LinkActs.arbitrate .refl).othersKept
  exact h.of_othersKept
    ⟨fun m hm => (hpick.link m hm).trans (hothers.link m hm), fun k hk => (hpick.find k hk).trans (hothers.find k hk)⟩
    (arbitratedAt_arbitrate hstopping hnames)

/-- A change of the column of one link. -/
theorem State.ArbiterSound.updLink {s : State} (h : s.ArbiterSound) {l : LinkNo} {f : Link → Link}
    (hl : (s.updLink l f).ArbitratedAt l) : (s.updLink l f).ArbiterSound :=
  h.of_othersKept (LinkActs.column .refl f).othersKept hl

/-- A change of the column of one link in nothing that the arbiter looks at. -/
theorem State.ArbiterSound.updUnseen {s : State} (h : s.ArbiterSound) {l : LinkNo} {f : Link → Link}
    (hstate : (f (s.link l)).state = (s.link l).state) (hflight : (f (s.link l)).inFlight = (s.link l).inFlight)
    (hbatch : (f (s.link l)).batch = (s.link l).batch) (hqueue : (f (s.link l)).queue = (s.link l).queue)
    (hdemand : (f (s.link l)).demandEligible = true → (s.link l).demandEligible = true)
    (hstations : (f (s.link l)).stations = (s.link l).stations) : (s.updLink l f).ArbiterSound := by
  have hstation : ∀ st, (f (s.link l)).station st = (s.link l).station st := fun st => by
    simp only [Link.station, hstations]
  refine h.updLink ((((arbiterSound_iff s).mp h) l).of_less ?_ ?_ ?_ ?_ ?_ fun i _ => ?_)
  · simpa using hstate
  · simpa using hflight
  · simpa using hbatch
  · simp [Link.writeEligible, hqueue, hstation]
  · simpa using hdemand
  · exact passes_of_passes (by simp [State.station, hstation]) (by simp [State.station, hstation]) fun _ _ _ => id

/-! ## Every move -/

/-- A column update followed by a pick. -/
theorem State.ArbiterSound.updLink_arbitrate {s : State} (h : s.ArbiterSound) {l : LinkNo} {f : Link → Link}
    (hstopping : (f (s.link l)).state = .stopping → (f (s.link l)).inFlight ≠ none)
    (hnames : BatchNames l (f (s.link l)).batch) : ((s.updLink l f).arbitrate l).ArbiterSound :=
  h.arbitrate (LinkActs.column .refl f).othersKept (by simpa using hstopping) (by simpa using hnames)

/-- A link that is made HALTED or OFF is not served. -/
theorem arbitratedAt_of_rest {s : State} {l : LinkNo} (hstate : (s.link l).state = .off ∨ (s.link l).state = .halted)
    (hnames : BatchNames l (s.link l).batch) : s.ArbitratedAt l := by
  refine arbitratedAt_of_not_free (fun h => ?_) (fun h => ?_) hnames
  all_goals
    rw [h] at hstate
    exact hstate.elim nofun nofun

theorem enterHalted_batch (k : Link) (why : HaltReason) : (k.enterHalted why).batch = k.batch := by
  rw [Link.enterHalted, dropWaiting_frame]
  rfl

theorem enterHalted_state (k : Link) (why : HaltReason) : (k.enterHalted why).state = .halted := by
  rw [Link.enterHalted, dropWaiting_frame]
  rfl

/-- HOLD makes nothing eligible (R132). -/
theorem State.ArbiterSound.hold {s : State} (h : s.ArbiterSound) {l : LinkNo} {st : StationNo} {hold : Hold}
    (found : (s.station l st).isMissing = false) :
    (s.updLink l (fun k => k.enterHeld st (k.station st) hold)).ArbiterSound := by
  have hstation : ∀ x, ((s.link l).enterHeld st ((s.link l).station st) hold).station x =
      if x = st then { (s.link l).station st with standing := .held hold } else (s.link l).station x := fun x => by
    rw [enterHeld_station, station_setStation]
  have hmissing : ((s.link l).station st).isMissing = false := found
  refine h.updLink (((arbiterSound_iff s).mp h l).of_less (by simp) (by simp) ?_ ?_ ?_ fun i _ => ?_)
  · rw [link_updLink_same, Link.enterHeld, failDemand_frame]
    rfl
  · rw [link_updLink_same]
    unfold Link.writeEligible
    rw [enterHeld_queue]
    split
    · exact id
    · split
      · exact id
      · rw [hstation]
        split
        · exact nofun
        · exact id
  · rw [link_updLink_same]
    unfold Link.demandEligible
    simp only [Link.enterHeld, failDemand_demand, setStation_demand]
    cases (s.link l).demand with
    | waiting => exact fun _ => rfl
    | empty | inFlight | ready => exact id
  · refine passes_of_passes (fun x => ?_) (fun x => ?_) fun _ _ _ => id
    · simp only [State.station, link_updLink_same, hstation]
      split
      · exact nofun
      · exact id
    · simp only [State.station, link_updLink_same, hstation]
      split
      next hx => rw [hx, hmissing]; rfl
      next => rfl

theorem demandTick_not_waiting (k : Link) : k.demandTick.demandEligible = true → k.demandEligible = true := by
  unfold Link.demandTick
  split
  · split <;> exact nofun
  all_goals exact id

theorem QuietMove.arbiterSound {s t : State} (h : QuietMove s t) (hs : s.ArbiterSound) : t.ArbiterSound := by
  have hat := (arbiterSound_iff s).mp hs
  cases h with
  | port | noticeSettings | lingerExpiry => exact hs
  | take | newLinger =>
    rw [oldestLost_eq]
    exact hs
  | remove p =>
    rw [removeEntries_eq_withoutKeys]
    refine (arbiterSound_iff _).mpr fun l => (hat l).of_link rfl fun k e _ hfind => ?_
    rw [find_withoutKeys] at hfind
    split at hfind
    · cases hfind
    · exact hfind
  | modify k code phase mask first legal =>
    exact hs.arbitrate (LinkActs.keyEvent .refl (modified_keepsPlace mask first legal)).othersKept
      (by simpa [State.keyEvent] using (hat _).2.1) (by simpa [State.keyEvent] using (hat _).2.2)
  | hold l st n range found => exact hs.hold found
  | release l st held => exact hs.updLink_arbitrate (hat l).2.1 (hat l).2.2
  | forget l st missing =>
    exact hs.arbitrate ((LinkActs.column .refl _).ofStation st onForget_keepsPlace).othersKept
      (by simpa [State.setStation] using (hat l).2.1) (by simpa [State.setStation] using (hat l).2.2)
  | runAfresh l high idle =>
    rw [ranAfresh_eq_updLink]
    exact hs.updLink_arbitrate nofun fun k => link_of_poll_mem_capture
  | runOn l stopping =>
    refine hs.updLink (arbitratedAt_of_not_free (fun _ => ?_) ?_ ?_) <;> rw [link_updLink_same]
    · exact (hat l).2.1 stopping
    · exact nofun
    · exact (hat l).2.2
  | stop l running =>
    refine hs.updLink ?_
    cases hf : (s.link l).inFlight with
    | none =>
      have hhalt : (s.link l).inFlight.isSome = false := by simp [hf]
      refine arbitratedAt_of_rest (.inr ?_) ?_ <;> rw [link_updLink_same] <;>
        simp only [hhalt, Bool.false_eq_true, if_false]
      · exact enterHalted_state ..
      · exact enterHalted_batch (s.link l) .hostStop ▸ (hat l).2.2
    | some tx =>
      have hsome : (s.link l).inFlight.isSome = true := by simp [hf]
      have hflight : (s.link l).enterStopping.inFlight ≠ none := by
        rw [Link.enterStopping, dropWaiting_frame]
        simp [hf]
      refine arbitratedAt_of_not_free (fun _ => ?_) (fun _ => ?_) ?_ <;> rw [link_updLink_same] <;>
        simp only [hsome, if_true]
      · exact hflight
      · exact hflight
      · rw [Link.enterStopping, dropWaiting_frame]
        exact (hat l).2.2
  | resetLink l =>
    refine hs.of_othersKept (resetLink_acts s l).othersKept (arbitratedAt_of_rest (.inl ?_) ?_) <;>
      rw [link_resetLink_same]
    · rfl
    · exact nofun
  | configure | setSlot | setPosition | events | rested | retryGap | requestSent =>
    exact hs.updUnseen rfl rfl rfl rfl id rfl
  | deliver => exact hs.updUnseen rfl rfl rfl rfl nofun rfl
  | demandExpiry l =>
    have hsame := sameEngine_demandTick (s.link l)
    refine hs.updUnseen ?_ ?_ ?_ ?_ (demandTick_not_waiting _) ?_
    all_goals
      unfold Link.demandTick
      split
      · split <;> rfl
      all_goals rfl
  | demand key running heeded empty => exact hs.updLink_arbitrate (hat _).2.1 (hat _).2.2
  | pinLow =>
    refine (arbiterSound_iff _).mpr fun l => arbitratedAt_of_rest (.inl ?_) ?_
    all_goals
      have hlink : s.pinLow.link l = Link.reset := reset_link l
      rw [hlink]
    · rfl
    · exact nofun
  | pinHigh low =>
    refine (arbiterSound_iff _).mpr fun l => ?_
    have hlink := link_pinHigh low l
    have hfind : ∀ k, s.pinHigh.find k = s.find k := fun k => by rw [State.pinHigh, if_pos low]; rfl
    refine (hat l).of_less (by rw [hlink]) (by rw [hlink]) (by rw [hlink]) (by rw [hlink]; exact id)
      (by rw [hlink]; exact id) fun i _ => ?_
    refine passes_of_passes ?_ ?_ fun k e _ => by rw [hfind]; exact id
    · simp only [State.station, hlink]
      exact fun _ => id
    · simp only [State.station, hlink]
      exact fun _ => rfl
  | slotTick l running =>
    have hacts : LinkActs l s ((s.tickOwners l).recapture l) := by
      rw [tickOwners_eq_event]
      exact ((LinkActs.column .refl _).event (fun _ => eq_of_beq) aged_keepsPlace).column _
    have hstate : (((s.tickOwners l).recapture l).link l).state = .running := by
      rw [State.recapture, link_updLink_same, link_tickOwners]
      have hoverrun : ((s.link l).overrun (s.overrunItems l).length).state = (s.link l).state := by
        unfold Link.overrun
        split <;> rfl
      have hsame := sameEngine_demandTick ((s.link l).overrun (s.overrunItems l).length).holdTick
      change (((s.link l).overrun (s.overrunItems l).length).holdTick.demandTick).state = _
      rw [hsame.frame]
      exact hoverrun.trans running
    rw [State.slotTick, if_pos running]
    refine hs.arbitrate hacts.othersKept (fun hstopping => ?_) ?_
    · exact absurd (hstate.symm.trans hstopping) nofun
    · rw [State.recapture, link_updLink_same]
      exact fun k => link_of_poll_mem_capture
  | holdExpiry l st held => exact hs.updLink_arbitrate (hat l).2.1 (hat l).2.2

theorem State.ArbiterSound.complete {s : State} (hs : s.ArbiterSound) (l : LinkNo) (tx : Transaction) (o : FinalOutcome)
    (c : AttemptClass) : (s.complete l tx o c).ArbiterSound := by
  have hat := (arbiterSound_iff s).mp hs
  have hothers := ((LinkActs.column (l := l) (s := s) .refl (fun k => k.settle tx o)).routeFree tx o c).othersKept
  have hroute := sameEngine_routeFree (s.updLink l (fun k => k.settle tx o)) l tx o c
  rw [State.SameEngine, link_updLink_same, settle_eq] at hroute
  unfold State.complete
  generalize (s.updLink l (fun k => k.settle tx o)).routeFree l tx o c = u at hroute hothers ⊢
  have hnames : BatchNames l (u.link l).batch := by
    rw [hroute.frame]
    exact (hat l).2.2
  have hhalt : ∀ why, (u.updLink l (fun k => k.enterHalted why)).ArbiterSound := fun why =>
    hs.of_othersKept
      ⟨fun m hm => (link_updLink_ne u _ hm).trans (hothers.link m hm), hothers.find⟩
      (arbitratedAt_of_rest (.inr (by rw [link_updLink_same]; exact enterHalted_state ..))
        (by rw [link_updLink_same]; exact enterHalted_batch (u.link l) why ▸ hnames))
  unfold State.afterCompletion
  split
  · exact hhalt _
  · split
    · exact hhalt _
    next hnot => exact hs.arbitrate hothers (fun hstopping => absurd hstopping hnot) hnames

theorem Move.arbiterSound {s t : State} (h : Move s t) (hs : s.ArbiterSound) : t.ArbiterSound := by
  have hat := (arbiterSound_iff s).mp hs
  cases h with
  | quiet h => exact h.arbiterSound hs
  | watch k w code phase mask first legal unwatched free =>
    refine hs.arbitrate ⟨fun _ _ => rfl, fun x hx => find?_insertEntry ?_ _⟩ (hat _).2.1 (hat _).2.2
    exact beq_eq_false_iff_ne.mpr fun hk => hx (hk ▸ rfl)
  | accept l d reg data on found room =>
    rw [acceptWrite_eq]
    refine State.ArbiterSound.arbitrate (u := s.enqueued l d reg data) hs (enqueued_acts s l d reg data).othersKept ?_ ?_
    · cases d <;> simpa [State.enqueued, State.keyEvent] using (hat l).2.1
    · cases d <;> simpa [State.enqueued, State.keyEvent] using (hat l).2.2
  | complete l tx sld c inFlight underWay class_eq => exact hs.complete l tx _ c

theorem StepMove.arbiterSound {s t : State} (h : StepMove s t) (hs : s.ArbiterSound) : t.ArbiterSound := by
  have hat := (arbiterSound_iff s).mp hs
  cases h with
  | move h => exact h.arbiterSound hs
  | queue | choices => exact hs
  | advance =>
    refine (arbiterSound_iff _).mpr fun l => ?_
    have hlink : s.advanceTimers.link l =
        { s.link l with line := (s.advanceTimers.link l).line, slotTimer := (s.advanceTimers.link l).slotTimer } := by
      rw [link_advanceTimers, slotAdvance_frame, lineAdvance_frame]
    refine (hat l).of_less (by rw [hlink]) (by rw [hlink]) (by rw [hlink]) (by rw [hlink]; exact id)
      (by rw [hlink]; exact id) fun i _ => ?_
    refine passes_of_passes ?_ ?_ fun _ _ _ => id
    · simp only [State.station]
      rw [hlink]
      exact fun _ => id
    · simp only [State.station]
      rw [hlink]
      exact fun _ => rfl
  | openWindow | lengthen => exact hs.updUnseen rfl rfl rfl rfl id rfl

/-- Settles O57: every move that can make a group eligible ends with a pick of its link. -/
theorem stepKeepsTheArbiter : Obligations.StepKeepsTheArbiter := by
  unfold Obligations.StepKeepsTheArbiter
  intro s t hs h
  exact step_keeps (fun _ _ hmove => hmove.arbiterSound) hs h

end Sys2Proof.Machine
end

section
/-! PROOFS. The value of an entry (02): it is replaced by an ACK of a read of its key and by the acceptance of a write for
its key, and by nothing else. -/

namespace Sys2Proof.Machine

/-! ## What keeps the values -/

/-- Every entry found afterwards was there before, with the same value. -/
def State.KeepsValues (s t : State) : Prop := ∀ k x, t.find k = some x → ∃ e, s.find k = some e ∧ x.value = e.value

theorem State.KeepsValues.refl (s : State) : s.KeepsValues s := fun _ x h => ⟨x, h, rfl⟩

theorem State.KeepsValues.trans {s t u : State} (h : s.KeepsValues t) (h' : t.KeepsValues u) : s.KeepsValues u := by
  intro k x hx
  obtain ⟨e, he, hxe⟩ := h' k x hx
  obtain ⟨e', he', hee'⟩ := h k e he
  exact ⟨e', he', hxe.trans hee'⟩

theorem keepsValues_of_find {s t : State} (h : ∀ k, t.find k = s.find k) : s.KeepsValues t :=
  fun k x hx => ⟨x, (h k).symm.trans hx, rfl⟩

theorem find_of_table {s t : State} (h : t.table = s.table) (k : Key) : t.find k = s.find k := by
  simp only [State.find, h]

theorem keepsValues_of_table {s t : State} (h : t.table = s.table) : s.KeepsValues t :=
  keepsValues_of_find (find_of_table h)

/-- An event that keeps the place of an entry and its value. -/
theorem keepsValues_entryEvent (s : State) (p : Entry → Bool) {f : Entry → Entry × List Reason}
    (hkeeps : ∀ e : Entry, e.KeepsPlace (f e).1) (hvalue : ∀ e, (f e).1.value = e.value) :
    s.KeepsValues (s.entryEvent p f) := by
  intro k x hx
  rw [find_entryEvent s (fun e => (hkeeps e).key), Option.map_eq_some_iff] at hx
  obtain ⟨e, he, rfl⟩ := hx
  refine ⟨e, he, ?_⟩
  split
  · exact hvalue e
  · rfl

/-! ## Transitions that keep the value -/

theorem onRejected_value (e : Entry) : e.onRejected.1.value = e.value := by
  unfold Entry.onRejected
  split <;> rfl

theorem onFailedRead_value (e : Entry) : e.onFailedRead.1.value = e.value := by
  unfold Entry.onFailedRead
  split
  · rfl
  all_goals split <;> rfl

theorem onReadResult_value {o : FinalOutcome} (ho : ∀ v, o ≠ .ack v) (e : Entry) :
    (e.onReadResult o).1.value = e.value := by
  cases o with
  | ack v => exact absurd rfl (ho v)
  | rejected => exact onRejected_value e
  | lost | corrupt | blocked => exact onFailedRead_value e
  | heldOff | ok | unknown | sent => rfl

theorem onWriteCompletion_value (o : FinalOutcome) (e : Entry) : (e.onWriteCompletion o).1.value = e.value := by
  unfold Entry.onWriteCompletion
  split
  · rfl
  · split <;> rfl

theorem onSent_value (e : Entry) : e.onSent.1.value = e.value := by
  unfold Entry.onSent
  split <;> rfl

theorem onRevival_value (e : Entry) : e.onRevival.1.value = e.value := by
  unfold Entry.onRevival
  split <;> rfl

theorem onForget_value (e : Entry) : e.onForget.1.value = e.value := by
  unfold Entry.onForget
  split <;> rfl

theorem onLinkReset_value (k : Option Key) (e : Entry) : (e.onLinkReset k).1.value = e.value := by
  unfold Entry.onLinkReset
  split <;> rfl

/-! ## Quiet moves keep the values -/

theorem QuietMove.keepsValues {s t : State} (h : QuietMove s t) : s.KeepsValues t := by
  cases h with
  | remove p =>
    intro k x hx
    rw [removeEntries_eq_withoutKeys, find_withoutKeys] at hx
    split at hx
    · cases hx
    · exact ⟨x, hx, rfl⟩
  | modify k code phase mask first legal =>
    exact (keepsValues_entryEvent s _ (modified_keepsPlace mask first legal) fun _ => rfl).trans
      (keepsValues_of_table (arbitrate_table _ _))
  | forget l st missing =>
    exact (keepsValues_entryEvent (s.setStation l st _) _ onForget_keepsPlace onForget_value).trans
      (keepsValues_of_table (arbitrate_table _ _))
  | resetLink l => exact keepsValues_entryEvent (s.updLink l _) _ (onLinkReset_keepsPlace _) (onLinkReset_value _)
  | slotTick l running =>
    rw [State.slotTick, if_pos running, tickOwners_eq_event]
    exact (keepsValues_entryEvent (s.updLink l _) _ aged_keepsPlace fun _ => rfl).trans
      (keepsValues_of_table (arbitrate_table _ _))
  | pinLow => exact fun _ _ => nofun
  | take | newLinger =>
    rw [oldestLost_eq]
    exact keepsValues_of_table rfl
  | pinHigh low =>
    rw [State.pinHigh, if_pos low]
    exact keepsValues_of_table rfl
  | release | runAfresh | demand | holdExpiry => exact keepsValues_of_table (arbitrate_table _ _)
  | port | hold | runOn | stop | configure | setSlot | setPosition | deliver | noticeSettings | events | demandExpiry
  | lingerExpiry | rested | retryGap | requestSent => exact keepsValues_of_table rfl

theorem QuietMoves.keepsValues {s t : State} (h : QuietMoves s t) : s.KeepsValues t := by
  induction h with
  | refl => exact .refl s
  | tail _ hmove ih => exact ih.trans hmove.keepsValues

/-! ## WATCH -/

/-- WATCH touches no entry that is there (R9). -/
theorem cmdWatch_find {s : State} {k : Key} (hk : (s.find k).isSome = true) : s.cmdWatch.find k = s.find k := by
  unfold State.cmdWatch
  split
  · rfl
  next key _ =>
    split
    · rfl
    · split
      · rfl
      next hnew =>
        split
        · rfl
        next w _ =>
          have hne : key ≠ k := fun h => hnew (h.symm ▸ hk)
          rw [find_of_table (arbitrate_table _ _)]
          refine find?_insertEntry ?_ s.table
          exact beq_eq_false_iff_ne.mpr hne

/-- A command whose body touches no entry that is there touches none. -/
theorem onCommand_find {s : State} {v : Word} {run : State → State} {k : Key}
    (h : ∀ u : State, u.table = s.table → (run u).find k = s.find k) : (s.onCommand v run).find k = s.find k := by
  cases hr : s.rstLow with
  | true =>
    rw [onCommand_low s v run hr]
    rfl
  | false =>
    rw [onCommand_high s v run hr, answer_find]
    exact h _ rfl

/-! ## The acceptance of a write -/

/-- A write taken into the queue replaces the value of the entry of its key, and no other (R37). -/
theorem find_acceptWrite (s : State) (l : LinkNo) (d : Dest) (reg : RegNo) (data : Value) (k : Key) :
    (s.acceptWrite l d reg data).find k =
      if d = .station k.station ∧ l = k.link ∧ reg = k.register then (s.find k).map (fun e => (e.onEnqueue data).1)
      else s.find k := by
  rw [acceptWrite_eq, answer_find, find_of_table (arbitrate_table _ _)]
  cases d with
  | broadcast => rfl
  | station st =>
    simp only [State.enqueued, State.keyEvent]
    rw [find_entryEvent _ (fun e => (onEnqueue_keepsPlace data e).key), updLink_find]
    cases hfind : s.find k with
    | none => simp
    | some e =>
      obtain rfl := find_some_key hfind
      have hmatch : (e.key == (⟨l, st, reg⟩ : Key)) =
          decide (Dest.station st = .station e.key.station ∧ l = e.key.link ∧ reg = e.key.register) := by
        obtain ⟨⟨kl, ks, kr⟩, _⟩ := e
        simp only [beq_eq_decide, Key.mk.injEq, Dest.station.injEq, eq_comm, decide_eq_decide]
        tauto
      simp only [Option.map_some, hmatch, decide_eq_true_eq]
      split <;> rfl

theorem destOf_eq_station {n : BitVec 6} {st : StationNo} (h : destOf n = .station st) : n.toNat = st.val := by
  unfold destOf stationOf at h
  split at h
  next x hx =>
    split at hx
    · rw [← Dest.station.inj h, ← Option.some.inj hx]
    · cases hx
  next => cases h

/-- A host write that changes a value is a write to the window address of the key (R37, R163). -/
theorem value_of_hostWrite {s : State} {a : HostAddr} {be : ByteEnables} {d : Word} {k : Key} {e x : Entry}
    (hregion : regionOf a ≠ .control) (he : s.find k = some e) (hx : (s.hostWrite a be d).find k = some x)
    (hne : x.value ≠ e.value) :
    ∃ base, (base = 0 ∨ base = 0x40000) ∧ a = windowAddr base k.link k.station.val k.register ∧ be = 0xF#4 ∧
      x.value = d.extractLsb' 0 16 ∧ x.state = .writing := by
  have hsame : s.find k = some x → False := fun h => hne (congrArg Entry.value (Option.some.inj (h.symm.trans he)))
  cases hform : s.rstLow || malformedAccess a be with
  | true =>
    rw [hostWrite_refused s a be d hform] at hx
    exact (hsame hx).elim
  | false =>
    obtain ⟨hr, hm⟩ := Bool.or_eq_false_iff.mp hform
    obtain rfl : be = 0xF#4 := by
      by_contra hbe
      simp [malformedAccess, hbe] at hm
    rw [hostWrite_window s a d hr hm hregion] at hx
    unfold State.windowWrite at hx
    split at hx
    · exact (hsame hx).elim
    · split at hx
      · exact (hsame hx).elim
      · split at hx
        · exact (hsame hx).elim
        · rw [find_acceptWrite, he] at hx
          split at hx
          next hkey =>
            obtain ⟨hdest, hlink, hregister⟩ := hkey
            have hlt : a.toNat < 0x80000 := Nat.lt_of_not_le fun h => hregion ((regionOf_eq_control_iff a).mpr h)
            have haddr := eq_windowAddr_of_lt hlt ((malformedAccess_eq_false_iff a).mp hm)
            have hn : (a.extractLsb' 10 6).toFin.val = k.station.val := destOf_eq_station hdest
            rw [hlink, hregister, hn] at haddr
            obtain rfl := Option.some.inj hx
            exact ⟨_, by omega, haddr, rfl, rfl, rfl⟩
          next => exact (hsame (he.trans hx)).elim

/-! ## The end of an attempt -/

theorem applyStation_keepsValues (s : State) (l : LinkNo) (st : StationNo) (probe : Bool) (eff : StationEffect) :
    s.KeepsValues (s.applyStation l st probe eff) := by
  have hfound : ∀ q, s.KeepsValues (s.findStation l st q) := fun q =>
    keepsValues_entryEvent (s.updLink l _) _ onRevival_keepsPlace onRevival_value
  unfold State.applyStation
  cases eff with
  | none => exact .refl s
  | reply =>
    simp only
    split
    · exact hfound _
    · exact keepsValues_of_table rfl
  | hold q =>
    simp only
    split
    · exact hfound _
    · unfold State.holdEffect
      simp only
      split <;> exact keepsValues_of_table rfl
  | silence =>
    simp only
    split
    · exact keepsValues_entryEvent (s.updLink l _) _ onStationLost_keepsPlace fun _ => rfl
    · exact keepsValues_of_table rfl

/-- An outcome keeps the values at the table, but for the ACK of a read of a key (R27). -/
theorem applyTable_keepsValues (s : State) (l : LinkNo) {tx : Transaction} {o : FinalOutcome}
    (h : ∀ v, o = .ack v → ∀ st reg, tx ≠ .poll st reg ∧ tx ≠ .demandRead st reg) :
    s.KeepsValues (s.applyTable l tx o) := by
  cases tx with
  | poll st reg =>
    exact keepsValues_entryEvent s _ (onReadResult_keepsPlace o) (onReadResult_value fun v hv => (h v hv st reg).1 rfl)
  | demandRead st reg =>
    exact keepsValues_entryEvent s _ (onReadResult_keepsPlace o) (onReadResult_value fun v hv => (h v hv st reg).2 rfl)
  | probe => exact .refl s
  | write st reg d => exact keepsValues_entryEvent s _ (onWriteCompletion_keepsPlace o) (onWriteCompletion_value o)
  | broadcast reg d =>
    unfold State.applyTable
    simp only
    split
    · exact keepsValues_entryEvent s _ onSent_keepsPlace onSent_value
    · exact .refl s

theorem routeFree_keepsValues (s : State) (l : LinkNo) {tx : Transaction} {o : FinalOutcome} (c : AttemptClass)
    (h : ∀ v, o = .ack v → ∀ st reg, tx ≠ .poll st reg ∧ tx ≠ .demandRead st reg) :
    s.KeepsValues (s.routeFree l tx o c) := by
  have hroute : ∀ first, s.KeepsValues (s.route l tx o c first) := fun first => by
    unfold State.route
    split
    · exact applyTable_keepsValues s l h
    · split
      · exact State.KeepsValues.trans (applyStation_keepsValues s l _ _ _) (applyTable_keepsValues _ l h)
      · exact State.KeepsValues.trans (applyTable_keepsValues s l h) (applyStation_keepsValues _ l _ _ _)
  unfold State.routeFree
  split
  · exact hroute _
  · split
    · exact hroute _
    · exact hroute _

theorem afterCompletion_table (s : State) (l : LinkNo) : (s.afterCompletion l).table = s.table := by
  unfold State.afterCompletion
  split
  · rfl
  · split
    · rfl
    · exact arbitrate_table s l

/-- The completion of a read of a key by an ACK hands the table the value, and nothing else changes there (R115). -/
theorem routeFree_ack (s : State) (l : LinkNo) {tx : Transaction} {st : StationNo} (hst : tx.station? = some st)
    (hprobe : tx.isProbe = false) (v : Value) (c : AttemptClass) :
    (s.routeFree l tx (.ack v) c).table = (s.applyTable l tx (.ack v)).table := by
  simp only [State.routeFree, State.route, hst, State.losesStation, stationEffect, State.applyStation, hprobe]
  rfl

/-- An ACK that changes the value of an entry leaves it VALID with age 0 (R32, R33). -/
theorem onAck_value_ne {e : Entry} {v : Value} (h : (e.onAck v).1.value ≠ e.value) :
    (e.onAck v).1.value = v ∧ (e.onAck v).1.state = .valid ∧ (e.onAck v).1.age = 0 := by
  unfold Entry.onAck at h ⊢
  split at h
  case h_6 | h_7 => exact absurd rfl h
  all_goals exact ⟨rfl, rfl, rfl⟩

theorem outcome_eq_ack {tx : Transaction} {c : AttemptClass} {v : Value} (h : c.outcome tx = .ack v) : c = .ack v := by
  unfold AttemptClass.outcome at h
  cases c <;> simp at h <;> split at h <;> simp_all

/-- The end of an attempt that changes a value is the ACK of a read of the key (R27). -/
theorem value_of_complete {s : State} {l : LinkNo} {tx : Transaction} {c : AttemptClass} {k : Key} {e x : Entry}
    (he : s.find k = some e) (hx : (s.complete l tx (c.outcome tx) c).find k = some x) (hne : x.value ≠ e.value) :
    k.link = l ∧ (tx = .poll k.station k.register ∨ tx = .demandRead k.station k.register) ∧ c = .ack x.value ∧
      x.state = .valid ∧ x.age = 0 := by
  have hread : ∀ st reg v, tx = .poll st reg ∨ tx = .demandRead st reg → c.outcome tx = .ack v →
      k = ⟨l, st, reg⟩ ∧ c = .ack x.value ∧ x.state = .valid ∧ x.age = 0 := by
    intro st reg v htx ho
    have htable : (s.complete l tx (c.outcome tx) c).find k =
        ((s.updLink l (fun j => j.settle tx (c.outcome tx))).keyEvent ⟨l, st, reg⟩
          (Entry.onReadResult (.ack v))).find k := by
      refine find_of_table ?_ k
      rw [State.complete, afterCompletion_table, ho]
      obtain rfl | rfl := htx
      · exact routeFree_ack _ l rfl rfl v c
      · exact routeFree_ack _ l rfl rfl v c
    rw [htable, State.keyEvent, find_entryEvent _ (fun e => (onReadResult_keepsPlace _ e).key), updLink_find, he] at hx
    simp only [Option.map_some, Option.some.injEq] at hx
    split at hx
    next hk =>
      subst hx
      obtain ⟨hvalue, hstate, hage⟩ := onAck_value_ne hne
      exact ⟨(find_some_key he).symm.trans (eq_of_beq hk), (outcome_eq_ack ho).trans (congrArg _ hvalue.symm), hstate,
        hage⟩
    next => exact absurd (congrArg Entry.value hx.symm) hne
  by_cases hquiet : ∀ v, c.outcome tx = .ack v → ∀ st reg, tx ≠ .poll st reg ∧ tx ≠ .demandRead st reg
  · obtain ⟨e', he', hvalue⟩ :=
      (routeFree_keepsValues (s.updLink l (fun j => j.settle tx (c.outcome tx))) l c hquiet) k x
        ((find_of_table (afterCompletion_table _ l) k).symm.trans hx)
    obtain rfl : e' = e := Option.some.inj (he'.symm.trans he)
    exact absurd hvalue hne
  · simp only [not_forall, not_and_or, not_not] at hquiet
    obtain ⟨v, ho, st, reg, htx⟩ := hquiet
    obtain ⟨rfl, hc, hstate, hage⟩ := hread st reg v htx ho
    exact ⟨rfl, htx, hc, hstate, hage⟩

/-! ## Every command -/

/-- Settles O58: the loud commands one by one, and every other keeps the values. -/
theorem valuesChangeInTwoWays : Obligations.ValuesChangeInTwoWays := by
  unfold Obligations.ValuesChangeInTwoWays
  intro c s t k e x hwell _ hexec he hx hne
  obtain rfl := eq_effect_of_exec hexec
  have hquiet : ¬ s.KeepsValues (effect c s) := fun h => by
    obtain ⟨e', he', hvalue⟩ := h k x hx
    exact hne (hvalue.trans (congrArg Entry.value (Option.some.inj (he'.symm.trans he))))
  have hfind : (effect c s).find k ≠ s.find k := fun h =>
    hne (congrArg Entry.value (Option.some.inj (hx.symm.trans (h.trans he))))
  cases c with
  | watch =>
    refine absurd (onCommand_find fun u hu => ?_) hfind
    have hsame := find_of_table hu k
    rw [cmdWatch_find (by rw [hsame, he]; rfl), hsame]
  | unknownCommand v =>
    have hnone : commandCodes.contains v = false := by simpa [WellFormed] using hwell
    refine absurd (onCommand_find fun u hu => ?_) hfind
    rw [commandBody_unknown hnone]
    exact find_of_table hu k
  | registerWrite a be d =>
    obtain ⟨hregion, hrow⟩ := Bool.and_eq_true_iff.mp hwell
    refine absurd (hostWrite_control_quietMoves s be d (eq_of_beq hregion) fun hword => ?_).keepsValues hquiet
    simp [hasWriteRow, hword] at hrow
  | windowWrite a be d =>
    obtain ⟨base, hbase, rfl, rfl, hvalue, hstate⟩ := value_of_hostWrite (by simpa [WellFormed] using hwell) he hx hne
    exact .inr ⟨base, d, hbase, rfl, hvalue, hstate⟩
  | attemptEnd l sld =>
    obtain h | ⟨tx, hflight, hway, c, hclass, ⟨-, -, h⟩ | h⟩ := attemptEnd_cases s l sld
    · exact absurd (keepsValues_of_find fun k => congrArg (State.find · k) h) hquiet
    · exact absurd (keepsValues_of_find fun k => congrArg (State.find · k) h) hquiet
    · obtain ⟨rfl, htx, rfl, hstate, hage⟩ := value_of_complete he ((congrArg (State.find · k) h).symm.trans hx) hne
      exact .inl ⟨sld, tx, rfl, hflight, htx, hclass, hstate, hage⟩
  | _ => exact absurd (effect_quietMoves _ s rfl).keepsValues hquiet

end Sys2Proof.Machine
end

section
/-! PROOFS. The commands at the port (10): the forms that are refused, the common checks, what a refused command leaves,
and the two rows of the reset pin. -/

namespace Sys2Proof.Machine

/-! ## Accesses refused by their form (R162) -/

/-- The forms of an access that the port refuses: RST_N low, less than full width, misaligned, or no word there. -/
abbrev RefusedForm (s : State) (a : HostAddr) (be : ByteEnables) : Prop :=
  s.rstLow = true ∨ be ≠ 0xF#4 ∨ a.toNat % 4 ≠ 0 ∨ (0x80000 ≤ a.toNat ∧ ∀ w : ControlWord, w.address ≠ a.toNat)

/-- A refused form is refused at once, or names no word of the control block. -/
theorem RefusedForm.cases {s : State} {a : HostAddr} {be : ByteEnables} (h : RefusedForm s a be) :
    (s.rstLow || malformedAccess a be) = true ∨
      (be = 0xF#4 ∧ a.toNat % 4 = 0 ∧ 0x80000 ≤ a.toNat ∧ ∀ w : ControlWord, w.address ≠ a.toNat) := by
  by_cases hbe : be = 0xF#4
  · subst hbe
    by_cases haligned : a.toNat % 4 = 0
    · obtain hlow | hne | hne | hunnamed := h
      · exact .inl (by rw [hlow, Bool.true_or])
      · exact absurd rfl hne
      · exact absurd haligned hne
      · exact .inr ⟨rfl, haligned, hunnamed⟩
    · refine .inl ?_
      rw [Bool.or_eq_true_iff]
      exact .inr (Bool.not_eq_false _ ▸ mt (malformedAccess_eq_false_iff a).mp haligned)
  · exact .inl (by simp [malformedAccess, hbe])

theorem hostWrite_refusedForm {s : State} {a : HostAddr} {be : ByteEnables} (h : RefusedForm s a be) (d : Word) :
    s.hostWrite a be d = s.ended .error none := by
  obtain hform | ⟨rfl, haligned, ha, hunnamed⟩ := h.cases
  · exact hostWrite_refused s a be d hform
  · exact hostWrite_notWritable s d ha fun w hw =>
      absurd ((controlWordAt_eq_some_iff haligned w).mp hw).symm (hunnamed w)

theorem hostRead_refusedForm {s : State} {a : HostAddr} {be : ByteEnables} (h : RefusedForm s a be) :
    s.hostRead a be = s.ended .error none := by
  obtain hform | ⟨rfl, -, ha, hunnamed⟩ := h.cases
  · exact hostRead_refused s a be hform
  · exact hostRead_unnamed s ha hunnamed

/-- The address of COMMAND is a good form, so only RST_N refuses it. -/
theorem RefusedForm.low_of_command {s : State} (h : RefusedForm s 0x80004#20 0xF#4) : s.rstLow = true := by
  obtain hlow | hne | hne | ⟨-, hunnamed⟩ := h
  · exact hlow
  · exact absurd rfl hne
  · exact absurd rfl hne
  · exact absurd rfl (hunnamed .command)

theorem onCommand_refusedForm {s : State} (h : RefusedForm s 0x80004#20 0xF#4) (v : Word) (run : State → State) :
    s.onCommand v run = s.ended .error none := onCommand_low s v run h.low_of_command

/-- Settles O6, by the kind of access the row stands for. -/
theorem accessRefusedByItsForm : Obligations.AccessRefusedByItsForm := by
  unfold Obligations.AccessRefusedByItsForm
  intro c a be s hc h
  cases c <;> cases hc
  case windowWrite d => exact congrArg _ (hostWrite_refusedForm h d)
  case registerWrite d => exact congrArg _ (hostWrite_refusedForm h d)
  case noticeCtlWrite d => exact congrArg _ (hostWrite_refusedForm h d)
  case linkEventsWrite l d => exact congrArg _ (linkEventsAddr_eq l ▸ hostWrite_refusedForm h d)
  case linkEnablesWrite l d => exact congrArg _ (linkEnablesAddr_eq l ▸ hostWrite_refusedForm h d)
  case lookup => exact congrArg _ (hostRead_refusedForm h)
  case demandRead => exact congrArg _ (hostRead_refusedForm h)
  case take => exact congrArg _ (hostRead_refusedForm h)
  all_goals exact congrArg _ (onCommand_refusedForm h _ _)

/-! ## The reset pin (R106, R120) -/

/-- Settles O5: what RST_N makes of the part does not depend on the state before, but for the model's own inputs. -/
theorem pinResetAndRelease : Obligations.PinResetAndRelease := by
  unfold Obligations.PinResetAndRelease
  intro s
  have hlink : ∀ l, s.pinLow.link l = Link.reset := fun l => reset_link l
  refine ⟨s.pinLow, rfl, rfl, rfl, fun l => ⟨?_, ?_⟩, ?_, rfl⟩
  · simp [State.sldDrivenLow, hlink, Link.sldDrivenLow, Link.reset, LineState.reset]
  · simp [State.slcToggling, hlink, Link.slcToggling, Link.reset, LineState.reset]
  · refine congrArg Host.Outcome.next ?_
    simp only [State.pinHigh, State.pinLow, State.reset, if_true, Vector.map_replicate]
    rfl

/-! ## The common checks (R165) -/

theorem argKey_eq_none {w : Word} (h : 3 < field w 19 16 ∨ 62 < field w 13 8) : argKey w = none := by
  unfold argKey
  obtain ⟨l, hl, hlink⟩ | ⟨hl, -⟩ := argLink_cases w
  · obtain ⟨st, hst, hstation⟩ | ⟨hst, -⟩ := argStation_cases w
    · omega
    · rw [hl, hst]
  · rw [hl]

theorem argRecord_eq_none {w : Word} (h : 3 < field w 19 16 ∨ 62 < field w 13 8) : argRecord w = none := by
  unfold argRecord
  obtain ⟨l, hl, hlink⟩ | ⟨hl, -⟩ := argLink_cases w
  · obtain ⟨st, hst, hstation⟩ | ⟨hst, -⟩ := argStation_cases w
    · omega
    · rw [hl, hst]
  · rw [hl]

theorem argRecord_of_namesRecord {w : Word} {l : LinkNo} {st : StationNo} (h : NamesRecord w l st) :
    argRecord w = some (l, st) := by
  rw [argRecord, argLink_eq_linkOf, argStation_eq_stationOf, h.1, h.2, linkOf_val, stationOf_val]

/-- Which commands name a link alone, and which a key or a station record. -/
theorem commandBody_badArgument {p : Instr × Word} (hp : p ∈ commandTable) (s : State)
    (h : (p.1 ∈ linkCommands ∨ p.1 ∈ recordCommands) ∧ 3 < field s.args[0] 19 16 ∨
      p.1 ∈ recordCommands ∧ 62 < field s.args[0] 13 8) : commandBody p.2 s = s.finish .badArgument := by
  have hlink : p.1 ∈ linkCommands → p.1 ∉ recordCommands → argLink s.args[0] = none := fun _ hnot => by
    obtain ⟨-, hgt⟩ | ⟨hrecord, -⟩ := h
    · exact argLink_of_gt hgt
    · exact absurd hrecord hnot
  have hrecord : p.1 ∈ recordCommands → argKey s.args[0] = none ∧ argRecord s.args[0] = none := fun _ => by
    have hrefused : 3 < field s.args[0] 19 16 ∨ 62 < field s.args[0] 13 8 := h.imp And.right And.right
    exact ⟨argKey_eq_none hrefused, argRecord_eq_none hrefused⟩
  have hnamed : p.1 ∈ linkCommands ∨ p.1 ∈ recordCommands := h.elim And.left fun hr => .inr hr.1
  simp only [commandTable, List.mem_cons, List.not_mem_nil, or_false] at hp
  rcases hp with rfl | rfl | rfl | rfl | rfl | rfl | rfl | rfl | rfl | rfl | rfl | rfl | rfl | rfl | rfl
  case inr.inr.inr.inr.inl => exact absurd hnamed (by decide)
  case inr.inr.inr.inr.inr.inl => exact absurd hnamed (by decide)
  · change s.cmdWatch = _
    simp [State.cmdWatch, State.arg0, (hrecord (by decide)).1]
  · change s.cmdUnwatch = _
    simp [State.cmdUnwatch, State.arg0, (hrecord (by decide)).1]
  · change s.cmdModify = _
    simp [State.cmdModify, State.arg0, (hrecord (by decide)).1]
  · change s.cmdInspect = _
    simp [State.cmdInspect, State.arg0, (hrecord (by decide)).1]
  · change s.cmdHold = _
    simp [State.cmdHold, State.arg0, (hrecord (by decide)).2]
  · change s.cmdRelease = _
    simp [State.cmdRelease, State.arg0, (hrecord (by decide)).2]
  · change s.cmdForget = _
    simp [State.cmdForget, State.arg0, (hrecord (by decide)).2]
  · change s.cmdLinkRun = _
    simp [State.cmdLinkRun, State.arg0, hlink (by decide) (by decide)]
  · change s.cmdLinkStop = _
    simp [State.cmdLinkStop, State.arg0, hlink (by decide) (by decide)]
  · change s.cmdLinkReset = _
    simp [State.cmdLinkReset, State.arg0, hlink (by decide) (by decide)]
  · change s.cmdLinkConfig = _
    simp [State.cmdLinkConfig, State.arg0, hlink (by decide) (by decide)]
  · change s.cmdSetSlot = _
    simp [State.cmdSetSlot, State.arg0, hlink (by decide) (by decide)]
  · change s.cmdSetPosition = _
    simp [State.cmdSetPosition, State.arg0, hlink (by decide) (by decide)]

/-- A command that runs to a result with no pick after it (R165). -/
theorem exec_eq_commandDone {i : Instr} {s t : State} {code : Word} {run : State → State} {c : ResultCode}
    {r1 r2 r3 : Word} (hexec : exec i s = .next (s.onCommand code run)) (hr : s.rstLow = false)
    (hrun : run { s with command := code } = ({ t with command := code } : State).result c r1 r2 r3) :
    exec i s = .next (t.commandDone code c r1 r2 r3) := hexec.trans (congrArg _ (onCommand_eq_commandDone hr hrun))

/-- A command that runs to a result with a pick after it (R98, R165). -/
theorem exec_eq_commandDone_arbitrate {i : Instr} {s t : State} {l : LinkNo} {code : Word} {run : State → State}
    {c : ResultCode} {r1 r2 r3 : Word} (hexec : exec i s = .next (s.onCommand code run)) (hr : s.rstLow = false)
    (hrun : run { s with command := code } = (({ t with command := code } : State).result c r1 r2 r3).arbitrate l) :
    exec i s = .next ((t.commandDone code c r1 r2 r3).arbitrate l) :=
  hexec.trans (congrArg _ (onCommand_eq_commandDone_arbitrate hr hrun))

/-- A value that is no code of Table 73. -/
theorem commandCodes_of_not_mem {v : Word} (h : ∀ p ∈ commandTable, p.2 ≠ v) : commandCodes.contains v = false := by
  have hcodes : commandCodes = commandTable.map Prod.snd := by decide
  rw [hcodes, ← Bool.not_eq_true, List.contains_iff_mem, List.mem_map]
  rintro ⟨p, hp, hv⟩
  exact h p hp hv

/-- Settles O9: no code, a bad link or station number, and the rows a code may be written by. -/
theorem commonChecks : Obligations.CommonChecks := by
  unfold Obligations.CommonChecks
  refine ⟨fun v s hr h => ?_, fun p s hp hr h => ?_, fun p s hp => ⟨?_, ?_⟩⟩
  · refine exec_eq_commandDone (exec_unknownCommand v s) hr ?_
    rw [commandBody_unknown (commandCodes_of_not_mem h)]
    rfl
  · exact exec_eq_commandDone (exec_of_mem_commandTable hp s) hr
      (commandBody_badArgument hp { s with command := p.2 } h)
  · rw [exec_unknownCommand, exec_of_mem_commandTable hp]
  · rw [exec_of_mem_commandTable hp]
    cases hr : s.rstLow with
    | false => rw [exec_registerWrite_word p.2 hr holdsWord_command]; rfl
    | true =>
      rw [exec_registerWrite, hostWrite_refused s _ _ _ (by rw [hr, Bool.true_or]), onCommand_low s _ _ hr]

/-! ## Refused commands (R165) -/

/-- A command body that refuses with a result code alone, or ends with OK. -/
def RefusesOrDoes (run : State → State) : Prop :=
  ∀ s : State, (∃ c, run s = s.finish c) ∨ (run s).results[0] = 0#32

theorem cmdWatch_refusesOrDoes : RefusesOrDoes State.cmdWatch := by
  intro s
  unfold State.cmdWatch
  split
  · exact .inl ⟨_, rfl⟩
  · split
    · exact .inl ⟨_, rfl⟩
    · split
      · exact .inl ⟨_, rfl⟩
      · split
        · exact .inl ⟨_, rfl⟩
        · exact .inr (by simp only [arbitrate_results, result_results]; rfl)

theorem cmdUnwatch_refusesOrDoes : RefusesOrDoes State.cmdUnwatch := by
  intro s
  unfold State.cmdUnwatch
  split
  · exact .inl ⟨_, rfl⟩
  · split
    · exact .inl ⟨_, rfl⟩
    · exact .inr rfl

theorem cmdModify_refusesOrDoes : RefusesOrDoes State.cmdModify := by
  intro s
  unfold State.cmdModify
  split
  · exact .inl ⟨_, rfl⟩
  · split
    · exact .inl ⟨_, rfl⟩
    · split
      · exact .inl ⟨_, rfl⟩
      · exact .inr (by simp only [arbitrate_results, result_results]; rfl)

theorem cmdInspect_refusesOrDoes : RefusesOrDoes State.cmdInspect := by
  intro s
  unfold State.cmdInspect
  split
  · exact .inl ⟨_, rfl⟩
  · split
    · exact .inl ⟨_, rfl⟩
    · exact .inr rfl

theorem cmdEnumerate_refusesOrDoes : RefusesOrDoes State.cmdEnumerate := by
  intro s
  unfold State.cmdEnumerate
  split
  · exact .inl ⟨_, rfl⟩
  · split
    · exact .inl ⟨_, rfl⟩
    · exact .inr rfl

theorem cmdPurge_refusesOrDoes : RefusesOrDoes State.cmdPurge := by
  intro s
  unfold State.cmdPurge
  split
  · exact .inl ⟨_, rfl⟩
  · exact .inr rfl

theorem cmdHold_refusesOrDoes : RefusesOrDoes State.cmdHold := by
  intro s
  unfold State.cmdHold
  split
  · exact .inl ⟨_, rfl⟩
  · split
    · exact .inl ⟨_, rfl⟩
    · split
      · exact .inl ⟨_, rfl⟩
      · exact .inr rfl

theorem cmdRelease_refusesOrDoes : RefusesOrDoes State.cmdRelease := by
  intro s
  unfold State.cmdRelease
  split
  · exact .inl ⟨_, rfl⟩
  · split
    · exact .inr (by simp only [arbitrate_results, finish_results]; rfl)
    · exact .inl ⟨_, rfl⟩

theorem cmdForget_refusesOrDoes : RefusesOrDoes State.cmdForget := by
  intro s
  unfold State.cmdForget
  split
  · exact .inl ⟨_, rfl⟩
  · split
    · exact .inr (by simp only [arbitrate_results, finish_results]; rfl)
    · exact .inl ⟨_, rfl⟩

theorem cmdLinkRun_refusesOrDoes : RefusesOrDoes State.cmdLinkRun := by
  intro s
  unfold State.cmdLinkRun
  split
  · exact .inl ⟨_, rfl⟩
  · split
    · exact .inr (by simp only [arbitrate_results, finish_results]; rfl)
    · exact .inr (by simp only [arbitrate_results, finish_results]; rfl)
    · exact .inr rfl
    · exact .inl ⟨_, rfl⟩

theorem cmdLinkStop_refusesOrDoes : RefusesOrDoes State.cmdLinkStop := by
  intro s
  unfold State.cmdLinkStop
  split
  · exact .inl ⟨_, rfl⟩
  · split
    · exact .inr rfl
    all_goals exact .inl ⟨_, rfl⟩

theorem cmdLinkReset_refusesOrDoes : RefusesOrDoes State.cmdLinkReset := by
  intro s
  unfold State.cmdLinkReset
  split
  · exact .inl ⟨_, rfl⟩
  · exact .inr rfl

theorem cmdLinkConfig_refusesOrDoes : RefusesOrDoes State.cmdLinkConfig := by
  intro s
  unfold State.cmdLinkConfig
  split
  · exact .inl ⟨_, rfl⟩
  · split
    · exact .inl ⟨_, rfl⟩
    · split
      · exact .inl ⟨_, rfl⟩
      · exact .inr rfl

theorem cmdSetSlot_refusesOrDoes : RefusesOrDoes State.cmdSetSlot := by
  intro s
  unfold State.cmdSetSlot
  split
  · exact .inl ⟨_, rfl⟩
  · split
    · exact .inl ⟨_, rfl⟩
    · exact .inr rfl

theorem cmdSetPosition_refusesOrDoes : RefusesOrDoes State.cmdSetPosition := by
  intro s
  unfold State.cmdSetPosition
  split
  · exact .inl ⟨_, rfl⟩
  · split
    · split
      · exact .inr rfl
      · exact .inl ⟨_, rfl⟩
    · exact .inl ⟨_, rfl⟩

theorem RefusesOrDoes.ite {c : Prop} [Decidable c] {f g : State → State} (hf : RefusesOrDoes f) (hg : RefusesOrDoes g) :
    RefusesOrDoes (if c then f else g) := by
  split
  · exact hf
  · exact hg

theorem commandBody_refusesOrDoes (v : Word) : RefusesOrDoes (commandBody v) :=
  .ite cmdWatch_refusesOrDoes <| .ite cmdUnwatch_refusesOrDoes <| .ite cmdModify_refusesOrDoes <|
  .ite cmdInspect_refusesOrDoes <| .ite cmdEnumerate_refusesOrDoes <| .ite cmdPurge_refusesOrDoes <|
  .ite cmdHold_refusesOrDoes <| .ite cmdRelease_refusesOrDoes <| .ite cmdForget_refusesOrDoes <|
  .ite cmdLinkRun_refusesOrDoes <| .ite cmdLinkStop_refusesOrDoes <| .ite cmdLinkReset_refusesOrDoes <|
  .ite cmdLinkConfig_refusesOrDoes <| .ite cmdSetSlot_refusesOrDoes <| .ite cmdSetPosition_refusesOrDoes
    fun _ => .inl ⟨_, rfl⟩

/-- Settles O8: a command body that does not end with OK is a result code alone. -/
theorem refusedCommandChangesOnlyTheResult : Obligations.RefusedCommandChangesOnlyTheResult := by
  unfold Obligations.RefusedCommandChangesOnlyTheResult
  intro p s t hp hr hexec hne
  obtain ⟨c, hrefused⟩ | hok := commandBody_refusesOrDoes p.2 { s with command := p.2 }
  · have hdone := exec_eq_commandDone (t := s) (exec_of_mem_commandTable hp s) hr hrefused
    obtain rfl := Host.Outcome.next.inj (hexec.symm.trans hdone)
    exact ⟨c, rfl, rfl⟩
  · have hresult := hexec.symm.trans (exec_of_mem_commandTable hp s)
    rw [onCommand_high s _ _ hr] at hresult
    obtain rfl := Host.Outcome.next.inj hresult
    exact absurd hok hne

end Sys2Proof.Machine
end

section
/-! PROOFS. The table commands (01): WATCH by its checks and by what it creates, MODIFY, and the snapshots of INSPECT and
ENUMERATE. -/

namespace Sys2Proof.Machine

/-! ## What the argument words say (Table 76) -/

theorem argPeriodCode_of_namesSchedule {w : Word} {code : Fin 8} {phase : Fin 64} {first : Bool}
    (h : NamesSchedule w code phase first) : argPeriodCode w = code :=
  Fin.ext ((toNat_extractLsb'_eq_field w 0 3 rfl).trans h.1)

theorem argPhase_of_namesSchedule {w : Word} {code : Fin 8} {phase : Fin 64} {first : Bool}
    (h : NamesSchedule w code phase first) : argPhase w = phase :=
  Fin.ext ((toNat_extractLsb'_eq_field w 8 6 rfl).trans h.2.1)

theorem argNoteFirst_of_namesSchedule {w : Word} {code : Fin 8} {phase : Fin 64} {first : Bool}
    (h : NamesSchedule w code phase first) : argNoteFirst w = first := by
  rw [argNoteFirst, getLsbD_eq_field, h.2.2]
  cases first <;> rfl

theorem scheduleLegal_iff (code : Fin 8) (phase : Fin 64) :
    scheduleLegal code phase = true ↔ LegalSchedule code phase := by
  unfold scheduleLegal period LegalSchedule
  by_cases h : code = 0
  · simp [h]
  · have hpos : code.val ≠ 0 := fun hv => h (Fin.ext hv)
    have hone : 1 ≤ code.val := Nat.pos_of_ne_zero hpos
    simp [h, hpos, hone]

theorem scheduleLegal_eq_false_iff (code : Fin 8) (phase : Fin 64) :
    scheduleLegal code phase = false ↔ ¬ LegalSchedule code phase := by
  rw [← Bool.not_eq_true, scheduleLegal_iff]

/-! ## The checks of WATCH (R9) -/

theorem freeWay_eq_none_iff (s : State) (b : Nat) :
    s.freeWay b = none ↔ ∀ w, w < 4 → ∃ e ∈ s.table, e.pos = b * 4 + w := by
  simp [State.freeWay, List.find?_eq_none, positionOf]

section
variable {s : State} {k : Key} {code : Fin 8} {phase : Fin 64} {first : Bool}

theorem cmdWatch_illegal (hk : NamesKey s.args[0] k) (hs : NamesSchedule s.args[1] code phase first)
    (hlegal : ¬ LegalSchedule code phase) : s.cmdWatch = s.finish .badArgument := by
  have harg1 : s.arg1 = s.args[1] := rfl
  simp [State.cmdWatch, State.arg0, argKey_of_namesKey hk, harg1, argPeriodCode_of_namesSchedule hs,
    argPhase_of_namesSchedule hs, (scheduleLegal_eq_false_iff code phase).mpr hlegal]

theorem cmdWatch_duplicate (hk : NamesKey s.args[0] k) (hs : NamesSchedule s.args[1] code phase first)
    (hlegal : LegalSchedule code phase) (hw : ∃ e ∈ s.table, e.key = k) : s.cmdWatch = s.finish .duplicate := by
  have harg1 : s.arg1 = s.args[1] := rfl
  simp [State.cmdWatch, State.arg0, argKey_of_namesKey hk, harg1, argPeriodCode_of_namesSchedule hs,
    argPhase_of_namesSchedule hs, (scheduleLegal_iff code phase).mpr hlegal, (find_isSome_iff s k).mpr hw]

theorem cmdWatch_full (hk : NamesKey s.args[0] k) (hs : NamesSchedule s.args[1] code phase first)
    (hlegal : LegalSchedule code phase) (hw : ∀ e ∈ s.table, e.key ≠ k) (hfull : s.freeWay k.bucket = none) :
    s.cmdWatch = s.finish .bucketFull := by
  have harg1 : s.arg1 = s.args[1] := rfl
  simp [State.cmdWatch, State.arg0, argKey_of_namesKey hk, harg1, argPeriodCode_of_namesSchedule hs,
    argPhase_of_namesSchedule hs, (scheduleLegal_iff code phase).mpr hlegal, (find_eq_none_iff s k).mpr hw, hfull]

theorem cmdWatch_taken {w : Nat} (hk : NamesKey s.args[0] k) (hs : NamesSchedule s.args[1] code phase first)
    (hlegal : LegalSchedule code phase) (hw : ∀ e ∈ s.table, e.key ≠ k) (hfree : s.freeWay k.bucket = some w) :
    s.cmdWatch =
      (({ s with
          table := insertEntry (s.newEntry k (positionOf k.bucket w) code phase (argMask s.args[2]) first) s.table } :
          State).result .ok
        (numberWord (positionOf k.bucket w)) 0#32 0#32).arbitrate k.link := by
  have harg1 : s.arg1 = s.args[1] := rfl
  have harg2 : s.arg2 = s.args[2] := rfl
  simp [State.cmdWatch, State.arg0, argKey_of_namesKey hk, harg1, harg2, argPeriodCode_of_namesSchedule hs,
    argPhase_of_namesSchedule hs, argNoteFirst_of_namesSchedule hs, (scheduleLegal_iff code phase).mpr hlegal,
    (find_eq_none_iff s k).mpr hw, hfree]

end

/-- Settles O12, by the check that fails first. -/
theorem watchChecks : Obligations.WatchChecks := by
  unfold Obligations.WatchChecks
  intro s k code phase first hr hk hs
  exact ⟨fun hlegal => exec_eq_commandDone rfl hr (cmdWatch_illegal (s := { s with command := 0x01#32 }) hk hs hlegal),
    fun hlegal hw => exec_eq_commandDone rfl hr (cmdWatch_duplicate (s := { s with command := 0x01#32 }) hk hs hlegal hw),
    fun hlegal hw hfull => exec_eq_commandDone rfl hr (cmdWatch_full (s := { s with command := 0x01#32 }) hk hs hlegal hw
      ((freeWay_eq_none_iff s k.bucket).mpr hfull))⟩

/-! ## The entry WATCH creates (R10) -/

theorem insertEntry_perm (e : Entry) (es : List Entry) : (insertEntry e es).Perm (e :: es) := by
  induction es with
  | nil => exact .refl _
  | cons x xs ih =>
    unfold insertEntry
    split
    · exact .refl _
    · exact (ih.cons x).trans (.swap e x xs)

/-- The queued records of a key, the oldest first. -/
abbrev Link.queuedRecords (k : Link) (st : StationNo) (reg : RegNo) : List WriteRecord :=
  k.queue.filter (fun r => r.dest == .station st && r.register == reg)

theorem queuedFor_eq_length (k : Link) (st : StationNo) (reg : RegNo) :
    k.queuedFor st reg = (k.queuedRecords st reg).length := List.countP_eq_length_filter

/-- The newest queued record gives the data (R10). -/
theorem newestData_of_getLast? {k : Link} {st : StationNo} {reg : RegNo} {r : WriteRecord}
    (h : (k.queuedRecords st reg).getLast? = some r) : k.newestData st reg = r.data := by
  rw [List.getLast?_eq_head?_reverse, ← List.filter_reverse, List.head?_filter] at h
  simp only [Link.newestData, h]

/-- The number of a table position stands in a RESULT word as it is (R4, Table 78). -/
theorem numberWord_of_lt {n : Nat} (h : n < 512) : numberWord n = BitVec.ofNat 32 n := by
  rw [numberWord_eq, Nat.mod_eq_of_lt (by omega)]

theorem positionOf_lt {k : Key} {w : Nat} (hw : w < 4) : positionOf k.bucket w < 512 := by
  have := bucket_lt k
  unfold positionOf
  omega

/-- Settles O13, by the entry of Table 9 in the lowest free way. -/
theorem watchCreatesAnEntry : Obligations.WatchCreatesAnEntry := by
  unfold Obligations.WatchCreatesAnEntry
  intro s k code phase first w hr hk hs hlegal hnew hw hfree hlow queued
  have hway : s.freeWay k.bucket = some w := (freeWay_eq_some_iff s k.bucket w).mpr ⟨hw, hfree, hlow⟩
  have hqueued : (s.link k.link).queuedFor k.station k.register = queued.length := queuedFor_eq_length _ _ _
  have hmissing := isMissing_iff ((s.link k.link).station k.station)
  refine ⟨s.newEntry k (positionOf k.bucket w) code phase (argMask s.args[2]) first, ?_, fun x => mem_insertEntry _ x _,
    ⟨rfl, rfl, rfl, rfl, rfl, toNat_extractLsb'_eq_field _ 0 16 rfl, rfl, rfl, rfl⟩, fun hst => ?_, fun hst r hlast => ?_,
    fun hst hnone => ?_, ?_, fun hlist => ?_⟩
  · refine exec_eq_commandDone_arbitrate rfl hr ?_
    rw [cmdWatch_taken (s := { s with command := 0x01#32 }) hk hs hlegal hnew hway, numberWord_of_lt (positionOf_lt hw)]
    rfl
  · have hm := hmissing.mpr hst
    simp [State.newEntry, hm]
  · have hm : ((s.link k.link).station k.station).isMissing = false := Bool.eq_false_iff.mpr (mt hmissing.mp hst)
    have hpos : queued.length ≠ 0 := by
      rw [Ne, List.length_eq_zero_iff]
      rintro hempty
      simp [hempty] at hlast
    simp [State.newEntry, hm, hqueued, hpos, newestData_of_getLast? hlast]
  · have hm : ((s.link k.link).station k.station).isMissing = false := Bool.eq_false_iff.mpr (mt hmissing.mp hst)
    simp [State.newEntry, hm, hqueued, hnone]
  · simp only [State.entryCount, (insertEntry_perm _ s.table).countP_eq]
    exact List.countP_cons_of_pos (by simp [State.newEntry])
  · rw [listed_eq_false_iff]
    rintro r hr rfl
    obtain ⟨e, he, hkey⟩ := (find_isSome_iff s r.key).mp (hlist.2 r hr).1
    exact hnew e he hkey

/-! ## MODIFY (R14, R15) -/

/-- An event at one key that lists nothing, as a change of the table alone. -/
theorem keyEvent_silent (s : State) (k : Key) (g : Entry → Entry) :
    s.keyEvent k (fun e => (g e, [])) = { s with table := s.table.map (fun e => if e.key = k then g e else e) } := by
  rw [State.keyEvent, entryEvent_silent s _ _ fun _ _ _ => rfl]
  simp only [beq_iff_eq]

/-- Settles O15, by the check that fails or the entry found. -/
theorem modifyReplacesTheSchedule : Obligations.ModifyReplacesTheSchedule := by
  unfold Obligations.ModifyReplacesTheSchedule
  intro s k code phase first hr hk hs
  have hkey : argKey s.args[0] = some k := argKey_of_namesKey hk
  have hcode := argPeriodCode_of_namesSchedule hs
  have hphase := argPhase_of_namesSchedule hs
  refine ⟨fun hlegal => ?_, fun hlegal hw => ?_, fun hlegal e he hpos => ?_⟩
  · refine exec_eq_commandDone rfl hr ?_
    have hbad := (scheduleLegal_eq_false_iff code phase).mpr hlegal
    simp [State.cmdModify, State.arg0, State.arg1, hkey, hcode, hphase, hbad, State.finish]
  · refine exec_eq_commandDone rfl hr ?_
    have hgood := (scheduleLegal_iff code phase).mpr hlegal
    have hnone : ({ s with command := 0x03#32 } : State).find k = none := (find_eq_none_iff s k).mpr hw
    simp [State.cmdModify, State.arg0, State.arg1, hkey, hcode, hphase, hgood, hnone, State.finish]
  · refine exec_eq_commandDone_arbitrate rfl hr ?_
    have hgood := (scheduleLegal_iff code phase).mpr hlegal
    have hfound : ({ s with command := 0x03#32 } : State).find k = some e := he
    simp only [State.cmdModify, State.arg0, State.arg1, State.arg2, hkey, hcode, hphase, hgood, hfound,
      argNoteFirst_of_namesSchedule hs, keyEvent_silent, numberWord_of_lt hpos]
    rfl

/-! ## Snapshots (R16, R17) -/

theorem toNat_stateCode (x : EntryState) : x.code.toNat = stateCode x := by cases x <;> rfl

theorem stateCode_lt (x : EntryState) : stateCode x < 8 := toNat_stateCode x ▸ x.code.isLt

theorem stale_iff (e : Entry) : e.stale = true ↔ IsStale e := by
  unfold Entry.stale IsStale period
  by_cases h : e.periodCode = 0
  · simp [h]
  · have hv : e.periodCode.val ≠ 0 := fun hv => h (Fin.ext hv)
    simp [h, hv]

theorem toNat_inspect1 (e : Entry) :
    e.inspect1.toNat =
      e.key.link.val * 2 ^ 30 + e.key.station.val * 2 ^ 24 + e.key.register.toNat * 2 ^ 16 + e.value.toNat := by
  change (BitVec.ofNat 2 e.key.link.val ++ BitVec.ofNat 6 e.key.station.val ++ e.key.register ++ e.value).toNat = _
  simp only [toNat_append_eq_add, BitVec.toNat_ofNat]
  omega

theorem toNat_inspect2 (e : Entry) :
    e.inspect2.toNat =
      e.mask.toNat * 2 ^ 16 + e.noteFirst.toNat * 2 ^ 15 + e.phase.val * 2 ^ 8 + e.periodCode.val * 2 ^ 4 +
        stateCode e.state := by
  change (e.mask ++ BitVec.ofBool e.noteFirst ++ 0#1 ++ (BitVec.ofFin e.phase : BitVec 6) ++ 0#1
    ++ (BitVec.ofFin e.periodCode : BitVec 3) ++ 0#1 ++ e.state.code).toNat = _
  simp only [toNat_append_eq_add, BitVec.toNat_ofNat, BitVec.toNat_ofFin, BitVec.toNat_ofBool, toNat_stateCode]
  omega

theorem toNat_inspect3 (s : State) (e : Entry) :
    (s.inspect3 e).toNat =
      e.age % 256 * 2 ^ 24 + e.stale.toNat * 2 ^ 23 + (s.listed e.key).toNat * 2 ^ 22 + e.failing.toNat * 2 ^ 21 +
        e.doubt.toNat * 2 ^ 20 + e.pending % 32 * 2 ^ 12 + e.pos % 512 := by
  change (BitVec.ofNat 8 e.age ++ BitVec.ofBool e.stale ++ BitVec.ofBool (s.listed e.key) ++ BitVec.ofBool e.failing
    ++ BitVec.ofBool e.doubt ++ 0#3 ++ BitVec.ofNat 5 e.pending ++ 0#3 ++ BitVec.ofNat 9 e.pos).toNat = _
  simp only [toNat_append_eq_add, BitVec.toNat_ofNat, BitVec.toNat_ofBool]
  omega

/-- The words of a snapshot are those of Tables 11 and 78. -/
theorem isSnapshot (s : State) (e : Entry) : IsSnapshot s e e.inspect1 e.inspect2 (s.inspect3 e) := by
  have hregister := e.key.register.isLt
  have hvalue := e.value.isLt
  have hmask := e.mask.isLt
  have hstate := stateCode_lt e.state
  have hfirst := e.noteFirst.toNat_lt
  have hstale := e.stale.toNat_lt
  have hlisted := (s.listed e.key).toNat_lt
  have hfailing := e.failing.toNat_lt
  have hdoubt := e.doubt.toNat_lt
  have hindicator : e.stale.toNat = 1 ↔ IsStale e := by rw [← stale_iff, Bool.toNat_eq_one]
  refine ⟨?_, ?_, ?_⟩
  · simp only [field, toNat_inspect1]
    omega
  · simp only [field, toNat_inspect2]
    omega
  · rw [← hindicator]
    simp only [field, toNat_inspect3]
    omega

/-- Among entries in ascending position the first at or above a start is the lowest. -/
theorem find?_eq_lowest {es : List Entry} (hes : es.Pairwise (fun a b => a.pos < b.pos)) {start : Nat} {e : Entry}
    (he : e ∈ es) (hstart : start ≤ e.pos) (hlow : ∀ x ∈ es, start ≤ x.pos → e.pos ≤ x.pos) :
    es.find? (fun x => decide (start ≤ x.pos)) = some e := by
  induction es with
  | nil => cases he
  | cons x xs ih =>
    obtain ⟨hhead, htail⟩ := List.pairwise_cons.mp hes
    by_cases hx : start ≤ x.pos
    · obtain rfl | he := List.mem_cons.mp he
      · simp [hx]
      · have := hlow x List.mem_cons_self hx
        have := hhead e he
        omega
    · obtain rfl | he := List.mem_cons.mp he
      · exact absurd hstart hx
      · rw [List.find?_cons_of_neg (by simpa using hx)]
        exact ih htail he fun y hy => hlow y (List.mem_cons_of_mem x hy)

theorem cmdEnumerate_none {s : State} (hstart : s.arg0.toNat ≤ 511)
    (hfind : s.table.find? (fun e => decide (s.arg0.toNat ≤ e.pos)) = none) : s.cmdEnumerate = s.finish .notFound := by
  rw [State.cmdEnumerate, if_neg (Nat.not_lt.mpr hstart), hfind]

theorem cmdEnumerate_some {s : State} {e : Entry} (hstart : s.arg0.toNat ≤ 511)
    (hfind : s.table.find? (fun e => decide (s.arg0.toNat ≤ e.pos)) = some e) : s.cmdEnumerate = s.snapshot e := by
  rw [State.cmdEnumerate, if_neg (Nat.not_lt.mpr hstart), hfind]

/-- Settles O16: the two commands find an entry and show it, or give their result code. -/
theorem snapshotsOfEntries : Obligations.SnapshotsOfEntries := by
  unfold Obligations.SnapshotsOfEntries
  refine ⟨fun s k hr hk => ⟨fun hw => ?_, fun e he => ⟨_, _, _, isSnapshot s e, ?_⟩⟩, fun s hr hs =>
    ⟨fun hstart => ?_, fun hstart hnone => ?_, fun hstart e he hle hlow => ⟨_, _, _, isSnapshot s e, ?_⟩⟩⟩
  · refine exec_eq_commandDone rfl hr ?_
    have hfind : ({ s with command := 0x04#32 } : State).find k = none := (find_eq_none_iff s k).mpr hw
    simp [State.cmdInspect, State.arg0, argKey_of_namesKey hk, hfind, State.finish]
  · refine exec_eq_commandDone rfl hr ?_
    have hfind : ({ s with command := 0x04#32 } : State).find k = some e := he
    simp only [State.cmdInspect, State.arg0, argKey_of_namesKey hk, hfind]
    rfl
  · refine exec_eq_commandDone rfl hr ?_
    simp [State.cmdEnumerate, State.arg0, hstart, State.finish]
  · refine exec_eq_commandDone rfl hr (cmdEnumerate_none (s := { s with command := 0x05#32 }) hstart ?_)
    exact List.find?_eq_none.mpr fun x hx h => absurd (of_decide_eq_true h) (Nat.not_le.mpr (hnone x hx))
  · exact exec_eq_commandDone rfl hr
      (cmdEnumerate_some (s := { s with command := 0x05#32 }) hstart (find?_eq_lowest hs.1 he hle hlow))

end Sys2Proof.Machine
end

section
/-! PROOFS. The station commands (07) and the link commands (05) in the words of their rules. -/

namespace Sys2Proof.Machine

/-! ## HOLD, RELEASE and FORGET (R132 to R134) -/

/-- A record that becomes HELD, with what the slot makes of it (R131, R158). -/
theorem enterHeld_eq (k : Link) (st : StationNo) (r : StationRecord) (h : Hold) :
    k.enterHeld st r h =
      { k.withRecord st { r with standing := .held h } with demand := k.demand.failedFor st } := by
  rw [Link.enterHeld, failDemand_frame, failDemand_demand]
  rfl

theorem isMissing_eq_false_iff (r : StationRecord) : r.isMissing = false ↔ r.standing ≠ .missing := by
  rw [Ne, ← isMissing_iff, Bool.not_eq_true]

theorem isHeld_eq_false_iff (r : StationRecord) : r.isHeld = false ↔ ∀ h, r.standing ≠ .held h := by
  rw [← Bool.not_eq_true, isHeld_iff, not_exists]

section
variable {s : State} {l : LinkNo} {st : StationNo}

theorem cmdHold_range (h : NamesRecord s.args[0] l st) (hn : 65535 < s.args[1].toNat) :
    s.cmdHold = s.finish .badArgument := by
  simp [State.cmdHold, State.arg0, State.arg1, argRecord_of_namesRecord h, hn]

theorem cmdHold_missing (h : NamesRecord s.args[0] l st) (hn : s.args[1].toNat ≤ 65535)
    (hst : (s.station l st).standing = .missing) : s.cmdHold = s.finish .stationMissing := by
  simp [State.cmdHold, State.arg0, State.arg1, argRecord_of_namesRecord h, Nat.not_lt.mpr hn,
    (isMissing_iff _).mpr hst]

theorem cmdHold_held (h : NamesRecord s.args[0] l st) (hn : s.args[1].toNat ≤ 65535)
    (hst : (s.station l st).standing ≠ .missing) :
    s.cmdHold =
      (s.updLink l (fun k =>
        { k.withRecord st { k.station st with
            standing := .held ⟨.host, if s.args[1].toNat = 0 then none else some s.args[1].toNat⟩ } with
          demand := k.demand.failedFor st })).finish .ok := by
  have hzero : s.args[1] = 0#32 ↔ s.args[1].toNat = 0 := (BitVec.toNat_inj (y := 0#32)).symm
  simp [State.cmdHold, State.arg0, State.arg1, argRecord_of_namesRecord h, Nat.not_lt.mpr hn,
    (isMissing_eq_false_iff _).mpr hst, enterHeld_eq, hzero]

theorem cmdRelease_free (h : NamesRecord s.args[0] l st) (hst : ∀ x, (s.station l st).standing ≠ .held x) :
    s.cmdRelease = s.finish .ok := by
  simp [State.cmdRelease, State.arg0, argRecord_of_namesRecord h, (isHeld_eq_false_iff _).mpr hst]

theorem cmdRelease_held (h : NamesRecord s.args[0] l st) (hst : ∃ x, (s.station l st).standing = .held x) :
    s.cmdRelease =
      ((s.updLink l (fun k => k.withRecord st { k.station st with
        standing := if (k.station st).seen then .present else .unseen })).finish .ok).arbitrate l := by
  simp only [State.cmdRelease, State.arg0, argRecord_of_namesRecord h, (isHeld_iff _).mpr hst, if_true]
  rfl

theorem cmdForget_found (h : NamesRecord s.args[0] l st) (hst : (s.station l st).standing ≠ .missing) :
    s.cmdForget = s.finish .notMissing := by
  simp [State.cmdForget, State.arg0, argRecord_of_namesRecord h, (isMissing_eq_false_iff _).mpr hst]

/-- FORGET reaches the ORPHANED entries of the station, and lists nothing (R45). -/
theorem entryEvent_onForget (s : State) (l : LinkNo) (st : StationNo) :
    s.entryEvent (Entry.ofStation l st) Entry.onForget =
      { s with table := s.table.map (fun e =>
          if e.key.link = l ∧ e.key.station = st ∧ e.state = .orphaned then { e with state := .priming } else e) } := by
  have hsilent : ∀ e : Entry, e.onForget.2 = [] := fun e => by
    unfold Entry.onForget
    split <;> rfl
  rw [entryEvent_silent s _ _ fun e _ _ => hsilent e]
  congr 1
  refine List.map_congr_left fun e _ => ?_
  simp only [Entry.ofStation, Entry.onForget, Bool.and_eq_true, beq_iff_eq]
  by_cases hl : e.key.link = l <;> by_cases hst : e.key.station = st <;> cases hstate : e.state <;> simp [hl, hst]

theorem cmdForget_missing (h : NamesRecord s.args[0] l st) (hst : (s.station l st).standing = .missing) :
    s.cmdForget =
      (({ s.updLink l (fun k => k.withRecord st ⟨.unseen, 0, false⟩) with
          table := s.table.map (fun e =>
            if e.key.link = l ∧ e.key.station = st ∧ e.state = .orphaned then { e with state := .priming } else e) } :
        State).finish .ok).arbitrate l := by
  simp only [State.cmdForget, State.arg0, argRecord_of_namesRecord h, (isMissing_iff _).mpr hst, if_true,
    entryEvent_onForget]
  rfl

end

/-- Settles O17, by the check that fails or the hold that is entered. -/
theorem holdHoldsAStation : Obligations.HoldHoldsAStation := by
  unfold Obligations.HoldHoldsAStation
  intro s l st hr h
  exact ⟨fun hn => exec_eq_commandDone rfl hr (cmdHold_range (s := { s with command := 0x10#32 }) h hn),
    fun hn hst => exec_eq_commandDone rfl hr (cmdHold_missing (s := { s with command := 0x10#32 }) h hn hst),
    fun hn hst => exec_eq_commandDone rfl hr (cmdHold_held (s := { s with command := 0x10#32 }) h hn hst)⟩

/-- Settles O18, by whether the record is HELD. -/
theorem releaseEndsAHold : Obligations.ReleaseEndsAHold := by
  unfold Obligations.ReleaseEndsAHold
  intro s l st hr h
  exact ⟨fun hst => exec_eq_commandDone rfl hr (cmdRelease_free (s := { s with command := 0x11#32 }) h hst),
    fun x hst => exec_eq_commandDone_arbitrate rfl hr
      (cmdRelease_held (s := { s with command := 0x11#32 }) h ⟨x, hst⟩)⟩

/-- Settles O19, by whether the record is MISSING. -/
theorem forgetAMissingStation : Obligations.ForgetAMissingStation := by
  unfold Obligations.ForgetAMissingStation
  intro s l st hr h
  exact ⟨fun hst => exec_eq_commandDone rfl hr (cmdForget_found (s := { s with command := 0x12#32 }) h hst),
    fun hst => exec_eq_commandDone_arbitrate rfl hr (cmdForget_missing (s := { s with command := 0x12#32 }) h hst)⟩

/-! ## LINK_STOP (R91, R92) -/

/-- Entry into HALTED as the statements write it (R92, R160). -/
theorem enterHalted_eq (k : Link) (why : HaltReason) : k.enterHalted why = k.halts why := by
  rw [Link.enterHalted, dropWaiting_frame, dropWaiting_demand]
  rfl

theorem enterStopping_eq (k : Link) :
    k.enterStopping = { k with state := .stopping, slotTimer := k.slotTimer.pause, demand := k.demand.dropped } := by
  rw [Link.enterStopping, dropWaiting_frame, dropWaiting_demand]

section
variable {s : State} {l : LinkNo}

theorem cmdLinkStop_idle (h : NamesLink s.args[0] l) (hstate : (s.link l).state ≠ .running) :
    s.cmdLinkStop = s.finish .ok := by
  simp only [State.cmdLinkStop, State.arg0, argLink_of_namesLink h]
  split
  next hrun => exact absurd hrun hstate
  all_goals rfl

theorem cmdLinkStop_free (h : NamesLink s.args[0] l) (hstate : (s.link l).state = .running)
    (hf : (s.link l).inFlight = none) :
    s.cmdLinkStop = (s.updLink l (fun k => k.halts .hostStop)).finish .ok := by
  simp only [State.cmdLinkStop, State.arg0, argLink_of_namesLink h, hstate]
  refine congrArg (State.finish · .ok) (updLink_congr s l ?_)
  simp [hf, enterHalted_eq]

theorem cmdLinkStop_busy (h : NamesLink s.args[0] l) {t : Timer} {tx : Transaction}
    (hstate : (s.link l).state = .running) (hf : (s.link l).inFlight = some tx)
    (ht : (s.link l).slotTimer = .running t) :
    s.cmdLinkStop =
      (s.updLink l (fun k => { k with
        state := .stopping, slotTimer := .paused t, demand := k.demand.dropped })).finish .ok := by
  simp only [State.cmdLinkStop, State.arg0, argLink_of_namesLink h, hstate]
  refine congrArg (State.finish · .ok) (updLink_congr s l ?_)
  simp [hf, enterStopping_eq, ht, SlotTimer.pause]

end

/-- Settles O22, by the link state and whether the line is free. -/
theorem linkStop : Obligations.LinkStop := by
  unfold Obligations.LinkStop
  intro s l hr h
  exact ⟨fun hstate => exec_eq_commandDone rfl hr (cmdLinkStop_idle (s := { s with command := 0x21#32 }) h hstate),
    fun hstate hf => exec_eq_commandDone rfl hr (cmdLinkStop_free (s := { s with command := 0x21#32 }) h hstate hf),
    fun t tx hstate hf ht =>
      exec_eq_commandDone rfl hr (cmdLinkStop_busy (s := { s with command := 0x21#32 }) h hstate hf ht)⟩

/-! ## LINK_RESET (R94) -/

/-- Which write a link reset leaves as taken by its station (R47). -/
theorem abandonedWhole_eq_some_iff (k : Link) (l : LinkNo) (key : Key) (hkey : key.link = l) :
    k.abandonedWhole l = some key ↔
      ∃ d, k.inFlight = some (.write key.station key.register d) ∧ k.line.sentWhole = true := by
  unfold Link.abandonedWhole
  split
  next st reg d hf =>
    obtain ⟨kl, ks, kr⟩ := key
    simp only at hkey
    subst hkey
    cases k.line.sentWhole <;> simp [hf]
  all_goals next hf => simp [hf]

/-- Storing COMMAND and a listing do not touch each other. -/
theorem listing_storeCommand (s : State) (v : Word) (k : Key) (rs : List Reason) (old : Value) :
    ({ s with command := v } : State).listing k rs old = { s.listing k rs old with command := v } := by
  cases h : s.listed k
  · rw [listing_unlisted s h, listing_unlisted { s with command := v } h]
  · rw [listing_listed s h, listing_listed { s with command := v } h]

/-- Storing COMMAND and an event at the table do not touch each other. -/
theorem entryEvent_storeCommand (s : State) (v : Word) (p : Entry → Bool) (f : Entry → Entry × List Reason) :
    ({ s with command := v } : State).entryEvent p f = { s.entryEvent p f with command := v } := by
  have hfold : ∀ (es : List Entry) (u : State),
      es.foldl (fun t e => if (f e).2.isEmpty then t else t.listing e.key (f e).2 e.value) { u with command := v } =
        { es.foldl (fun t e => if (f e).2.isEmpty then t else t.listing e.key (f e).2 e.value) u with command := v } := by
    intro es
    induction es with
    | nil => exact fun _ => rfl
    | cons e es ih =>
      intro u
      simp only [List.foldl_cons]
      split
      · exact ih u
      · rw [listing_storeCommand, ih]
  exact hfold (s.table.filter p) { s with table := s.table.map (fun e => if p e then (f e).1 else e) }

theorem resetLink_storeCommand (s : State) (v : Word) (l : LinkNo) :
    ({ s with command := v } : State).resetLink l = { s.resetLink l with command := v } :=
  entryEvent_storeCommand (s.updLink l Link.afterReset) v _ _

/-- Settles O23: the column of the reset and the change of its entries, with the abandoned write. -/
theorem linkReset : Obligations.LinkReset := by
  unfold Obligations.LinkReset
  intro s l hr h
  refine ⟨Entry.onLinkReset ((s.link l).abandonedWhole l), fun e he => ?_, ?_⟩
  · have htaken := abandonedWhole_eq_some_iff (s.link l) l e.key he
    refine ⟨fun hstate => ?_, fun hstate htake => ?_, fun hstate htake => ?_, fun hne hne' => ?_⟩
    · simp only [Entry.onLinkReset, hstate]
    · simp only [Entry.onLinkReset, hstate, htaken.mpr htake, if_true]
    · simp only [Entry.onLinkReset, hstate, mt htaken.mp htake, if_false]
    · unfold Entry.onLinkReset
      cases hstate : e.state with
      | orphaned => exact absurd hstate hne
      | writing => exact absurd hstate hne'
      | valid | priming | settling | doubtful | refused => rfl
  · have hcolumn : s.updLink l Link.afterReset = s.updLink l (fun k =>
        { k with
          state := .off, pointer := .poll, inFlight := none, blockedRun := 0, slotTimer := .stopped, batch := [],
          endedHolds := [], queue := [], demand := .empty, stations := Vector.replicate 63 ⟨.unseen, 0, false⟩,
          line := if k.inFlight = none then k.line else ⟨.idle, 0, false, [], .quiet, ⟨29, 0⟩⟩ }) := by
      refine updLink_congr s l ?_
      unfold Link.afterReset
      cases hf : (s.link l).inFlight <;> rfl
    rw [← hcolumn]
    refine exec_eq_commandDone (t := s.resetLink l) rfl hr ?_
    simp only [State.cmdLinkReset, State.arg0, argLink_of_namesLink h, resetLink_storeCommand]
    rfl

/-! ## LINK_CONFIG (R96) -/

section
variable {s : State} {l : LinkNo}

/-- The ranges of Table 37. -/
abbrev ConfigLegal (a1 a2 a3 : Word) : Prop :=
  3 ≤ a1.toNat ∧ a1.toNat ≤ 999 ∧ a2.toNat ≤ 7 ∧ 1 ≤ a3.toNat ∧ a3.toNat ≤ 15

theorem cmdLinkConfig_illegal (h : NamesLink s.args[0] l) (hlegal : ¬ ConfigLegal s.args[1] s.args[2] s.args[3]) :
    s.cmdLinkConfig = s.finish .badArgument := by
  simp only [State.cmdLinkConfig, State.arg0, argLink_of_namesLink h]
  refine if_pos ?_
  simp only [ConfigLegal, State.arg1, State.arg2, State.arg3] at hlegal ⊢
  omega

theorem not_illegal_of_legal (hlegal : ConfigLegal s.args[1] s.args[2] s.args[3]) :
    ¬ (s.arg1.toNat < 3 ∨ 999 < s.arg1.toNat ∨ 7 < s.arg2.toNat ∨ s.arg3.toNat < 1 ∨ 15 < s.arg3.toNat) := by
  simp only [ConfigLegal, State.arg1, State.arg2, State.arg3] at hlegal ⊢
  omega

theorem cmdLinkConfig_busy (h : NamesLink s.args[0] l) (hlegal : ConfigLegal s.args[1] s.args[2] s.args[3])
    (hbusy : (s.link l).state = .running ∨ (s.link l).state = .stopping) : s.cmdLinkConfig = s.finish .linkBusy := by
  simp only [State.cmdLinkConfig, State.arg0, argLink_of_namesLink h]
  rw [if_neg (not_illegal_of_legal hlegal), (idle_eq_false_iff _).mpr hbusy]
  rfl

theorem cmdLinkConfig_idle (h : NamesLink s.args[0] l) (hlegal : ConfigLegal s.args[1] s.args[2] s.args[3])
    (hidle : (s.link l).state = .off ∨ (s.link l).state = .halted) :
    s.cmdLinkConfig =
      (s.updLink l (fun k => { k with
        divider := s.args[1].toNat, retryLimit := s.args[2].toNat, missLimit := s.args[3].toNat })).finish .ok := by
  simp only [State.cmdLinkConfig, State.arg0, argLink_of_namesLink h]
  rw [if_neg (not_illegal_of_legal hlegal), (idle_iff _).mpr hidle]
  rfl

end

/-- Settles O24, by the ranges and the link state. -/
theorem linkConfig : Obligations.LinkConfig := by
  unfold Obligations.LinkConfig
  intro s l hr h legal
  exact ⟨fun hlegal => exec_eq_commandDone rfl hr (cmdLinkConfig_illegal (s := { s with command := 0x23#32 }) h hlegal),
    fun hlegal hbusy =>
      exec_eq_commandDone rfl hr (cmdLinkConfig_busy (s := { s with command := 0x23#32 }) h hlegal hbusy),
    fun hlegal hidle =>
      exec_eq_commandDone rfl hr (cmdLinkConfig_idle (s := { s with command := 0x23#32 }) h hlegal hidle)⟩

/-! ## The laws after reset -/

/-- Settles O52: the table, list and batches of the reset state are empty, and every column is the reset column. -/
theorem resetIsSound : Obligations.ResetIsSound := by
  unfold Obligations.ResetIsSound
  refine ⟨pinLow_mirrorSound .reset, fun l => ?_, fun l => ?_, nofun, fun l => ?_⟩
  · rw [reset_link]
    exact ⟨reset_engineSound, nofun⟩
  · rw [reset_link]
    exact reset_columnSound l
  · rw [reset_link]
    exact ⟨nofun, nofun, nofun⟩

end Sys2Proof.Machine
end

section
/-! PROOFS. The host windows and the change list at the port (03, 08, 09): window writes, lookups, demand reads and TAKE. -/

namespace Sys2Proof.Machine

/-! ## Window accesses (R162, R163) -/

section
variable {base : Nat} (l : LinkNo) (n : Fin 64) (reg : RegNo)

theorem windowAddr_aligned (hbase : base = 0 ∨ base = 0x40000) :
    malformedAccess (windowAddr base l n.val reg) 0xF#4 = false := by
  rw [malformedAccess_eq_false_iff, toNat_windowAddr hbase]
  omega

theorem regionOf_windowAddr_ne_control (hbase : base = 0 ∨ base = 0x40000) :
    regionOf (windowAddr base l n.val reg) ≠ .control := fun h =>
  absurd ((regionOf_eq_control_iff _).mp h) (Nat.not_le.mpr (windowAddr_lt hbase l n reg))

/-- A window write at its address (R138). -/
theorem exec_windowWrite {s : State} (hbase : base = 0 ∨ base = 0x40000) (hr : s.rstLow = false) (d : Word) :
    exec (.windowWrite (windowAddr base l n.val reg) 0xF#4 d) s =
      .next (s.windowWrite l (destOf (BitVec.ofNat 6 n.val)) reg (d.extractLsb' 0 16)) := by
  refine congrArg Host.Outcome.next ?_
  rw [hostWrite_window s _ d hr (windowAddr_aligned l n reg hbase) (regionOf_windowAddr_ne_control l n reg hbase),
    windowLink_windowAddr hbase, windowDest_windowAddr hbase, windowRegister_windowAddr hbase]

end

/-- A window read of a station at its address (R150, R154). -/
theorem hostRead_cached {s : State} (hr : s.rstLow = false) (k : Key) :
    s.hostRead (windowAddr 0 k.link k.station.val k.register) 0xF#4 =
      s.cachedRead k.link (.station k.station) k.register := by
  let n : Fin 64 := ⟨k.station.val, by omega⟩
  have hbase : 0 = 0 ∨ 0 = 0x40000 := .inl rfl
  have hlink : windowLink (windowAddr 0 k.link k.station.val k.register) = k.link :=
    windowLink_windowAddr hbase k.link n k.register
  have hdest : windowDest (windowAddr 0 k.link k.station.val k.register) = .station k.station :=
    (windowDest_windowAddr hbase k.link n k.register).trans (destOf_station k.station)
  have hreg : windowRegister (windowAddr 0 k.link k.station.val k.register) = k.register :=
    windowRegister_windowAddr hbase k.link n k.register
  have hform : malformedAccess (windowAddr 0 k.link k.station.val k.register) 0xF#4 = false :=
    windowAddr_aligned k.link n k.register hbase
  have hregion : regionOf (windowAddr 0 k.link k.station.val k.register) = .cached :=
    regionOf_windowAddr_cached k.link n k.register
  simp only [State.hostRead, hr, hform, hregion, hlink, hdest, hreg]
  rfl

theorem hostRead_direct {s : State} (hr : s.rstLow = false) (k : Key) :
    s.hostRead (windowAddr 0x40000 k.link k.station.val k.register) 0xF#4 = s.demandRead k := by
  let n : Fin 64 := ⟨k.station.val, by omega⟩
  have hbase : 0x40000 = 0 ∨ 0x40000 = 0x40000 := .inr rfl
  have hlink : windowLink (windowAddr 0x40000 k.link k.station.val k.register) = k.link :=
    windowLink_windowAddr hbase k.link n k.register
  have hdest : windowDest (windowAddr 0x40000 k.link k.station.val k.register) = .station k.station :=
    (windowDest_windowAddr hbase k.link n k.register).trans (destOf_station k.station)
  have hreg : windowRegister (windowAddr 0x40000 k.link k.station.val k.register) = k.register :=
    windowRegister_windowAddr hbase k.link n k.register
  have hform : malformedAccess (windowAddr 0x40000 k.link k.station.val k.register) 0xF#4 = false :=
    windowAddr_aligned k.link n k.register hbase
  have hregion : regionOf (windowAddr 0x40000 k.link k.station.val k.register) = .direct :=
    regionOf_windowAddr_direct k.link n k.register
  simp only [State.hostRead, hr, hform, hregion, hlink, hdest, hreg]
  rfl

/-! ## Window writes (R138, Table 63) -/

theorem val_of_destOf {n : Fin 64} {st : StationNo} : destOf (BitVec.ofNat 6 n.val) = .station st ↔ st.val = n.val := by
  have hn : (BitVec.ofNat 6 n.val).toNat = n.val := Nat.mod_eq_of_lt (by omega)
  constructor
  · intro h
    rw [← destOf_eq_station h, hn]
  · intro h
    rw [← h, destOf_station]

/-- Which window writes go to a MISSING station (R138, check 2). -/
theorem toMissing_iff (s : State) (l : LinkNo) (n : Fin 64) :
    s.toMissing l (destOf (BitVec.ofNat 6 n.val)) = true ↔
      ∃ st : StationNo, st.val = n.val ∧ (s.station l st).standing = .missing := by
  constructor
  · intro h
    cases hd : destOf (BitVec.ofNat 6 n.val) with
    | broadcast =>
      rw [hd] at h
      cases h
    | station st =>
      rw [hd] at h
      exact ⟨st, val_of_destOf.mp hd, (isMissing_iff _).mp h⟩
  · rintro ⟨st, hst, hmissing⟩
    rw [val_of_destOf.mpr hst]
    exact (isMissing_iff _).mpr hmissing

/-- The write taken: the tail of the queue, and the entry of the key (R37, R137). -/
theorem enqueued_eq (s : State) (l : LinkNo) (n : Fin 64) (reg : RegNo) (data : Value) :
    s.enqueued l (destOf (BitVec.ofNat 6 n.val)) reg data =
      { s.updLink l (fun k => { k with
          queue := k.queue ++ [⟨destOf (BitVec.ofNat 6 n.val), reg, data, false⟩] }) with
        table := s.table.map (fun e =>
          if e.key.link = l ∧ e.key.station.val = n.val ∧ e.key.register = reg then (e.onEnqueue data).1 else e) } := by
  cases hd : destOf (BitVec.ofNat 6 n.val) with
  | broadcast =>
    have hnone : ∀ e : Entry, ¬ (e.key.link = l ∧ e.key.station.val = n.val ∧ e.key.register = reg) :=
      fun e h => by cases hd.symm.trans (val_of_destOf.mpr h.2.1)
    simp only [State.enqueued, hnone, if_false, List.map_id']
    rfl
  | station st =>
    have hkey : ∀ e : Entry, e.key = ⟨l, st, reg⟩ ↔
        e.key.link = l ∧ e.key.station.val = n.val ∧ e.key.register = reg := fun e => by
      obtain ⟨⟨kl, ks, kr⟩, _⟩ := e
      simp only [Key.mk.injEq, ← val_of_destOf.mp hd, Fin.ext_iff]
    have hsilent : Entry.onEnqueue data = fun e => ((e.onEnqueue data).1, []) := rfl
    simp only [State.enqueued]
    rw [hsilent, keyEvent_silent]
    simp only [hkey]
    rfl

/-- Settles O28, by the first check of Table 63 that fails, or the enqueue. -/
theorem windowWrite : Obligations.WindowWrite := by
  unfold Obligations.WindowWrite
  intro s base l n reg d hr hbase missing write
  have hcapacity : Config.queueCapacity = 16 := rfl
  have hwrite : write = .next (s.windowWrite l (destOf (BitVec.ofNat 6 n.val)) reg (d.extractLsb' 0 16)) :=
    exec_windowWrite l n reg hbase hr d
  have hmissing := toMissing_iff s l n
  rw [hwrite]
  refine ⟨fun hoff => ?_, fun hoff hm => ?_, fun hoff hm hfull => ?_, fun hoff hm hroom => ?_⟩ <;>
    refine congrArg Host.Outcome.next ?_ <;> rw [State.windowWrite, hcapacity]
  · rw [if_pos hoff]
    rfl
  · rw [if_neg hoff, if_pos (hmissing.mpr hm)]
    rfl
  · rw [if_neg hoff, if_neg (mt hmissing.mp hm), if_pos hfull]
    rfl
  · rw [if_neg hoff, if_neg (mt hmissing.mp hm), if_neg (Nat.not_le.mpr hroom), acceptWrite_eq, ← arbitrate_answer,
      enqueued_eq]
    rfl

/-! ## Lookups and demand reads (R150, R151, R154, R157) -/

theorem toNat_responseWord (age : Nat) (listed stale : Bool) (code : BitVec 3) (value : Value) :
    (responseWord age listed stale code value).toNat =
      age % 256 * 2 ^ 24 + listed.toNat * 2 ^ 20 + stale.toNat * 2 ^ 19 + code.toNat * 2 ^ 16 + value.toNat := by
  change (BitVec.ofNat 8 age ++ 0#3 ++ BitVec.ofBool listed ++ BitVec.ofBool stale ++ code ++ value).toNat = _
  simp only [toNat_append_eq_add, BitVec.toNat_ofNat, BitVec.toNat_ofBool]
  omega

/-- A response word shows its fields (Table 75). -/
theorem isResponse (age : Nat) (listed stale : Bool) (code : BitVec 3) (value : Value) :
    IsResponse (responseWord age listed stale code value) value code.toNat stale listed age := by
  have hvalue := value.isLt
  have hcode := code.isLt
  have hstale := stale.toNat_lt
  have hlisted := listed.toNat_lt
  simp only [IsResponse, field, toNat_responseWord]
  omega

/-- Settles O29, by the entry the cached window finds. -/
theorem lookupAnswersFromTheEntry : Obligations.LookupAnswersFromTheEntry := by
  unfold Obligations.LookupAnswersFromTheEntry
  intro s e hr he
  refine ⟨s.lookupWord e, e.stale, stale_iff e, toNat_stateCode e.state ▸ isResponse .., ?_⟩
  refine congrArg Host.Outcome.next ?_
  rw [hostRead_cached hr]
  simp only [State.cachedRead, he]
  rfl

/-- A demand read by whichever window reaches the slot of the key (R150, R154). -/
theorem hostRead_demandRead {s : State} {base : Nat} {k : Key} (hr : s.rstLow = false)
    (h : base = 0x40000 ∨ (base = 0 ∧ ∀ e ∈ s.table, e.key ≠ k)) :
    exec (.demandRead (windowAddr base k.link k.station.val k.register) 0xF#4) s = .next (s.demandRead k) := by
  rw [exec_demandRead]
  obtain rfl | ⟨rfl, hnone⟩ := h
  · rw [hostRead_direct hr]
  · have hfind : s.find ⟨k.link, k.station, k.register⟩ = none := (find_eq_none_iff s k).mpr hnone
    rw [hostRead_cached hr]
    simp only [State.cachedRead, hfind]

/-- A delivered word has the value read, age 0 and no stale indicator (R151, R157). -/
theorem deliveredWord_watched {s : State} {k : Key} {e : Entry} (he : s.find k = some e) (v : Value) :
    IsResponse (s.deliveredWord k v) v (stateCode e.state) false (s.listed k) 0 := by
  simp only [State.deliveredWord, he, ← toNat_stateCode]
  exact isResponse ..

theorem deliveredWord_unwatched {s : State} {k : Key} (h : ∀ e ∈ s.table, e.key ≠ k) (v : Value) :
    IsResponse (s.deliveredWord k v) v 7 false false 0 := by
  simp only [State.deliveredWord, (find_eq_none_iff s k).mpr h]
  exact isResponse 0 false false unwatchedCode v

/-- With no READY result of the key, checks 3 to 7 of Table 70 follow (R154). -/
theorem demandRead_start {s : State} {k : Key} (h : ∀ r n, (s.link k.link).demand ≠ .ready k r n) :
    s.demandRead k = s.startDemand k := by
  unfold State.demandRead
  split
  next key result n hdemand =>
    have hkey : key ≠ k := by
      rintro rfl
      exact h result n hdemand
    rw [if_neg hkey]
  all_goals rfl

theorem leftAlone_iff (r : StationRecord) : r.leftAlone = true ↔ r.standing = .missing ∨ ∃ h, r.standing = .held h := by
  rw [StationRecord.leftAlone, Bool.or_eq_true, isHeld_iff, isMissing_iff, or_comm]

/-- Settles O30, by the slot, the link state and the record of the station. -/
theorem demandReadAnswers : Obligations.DemandReadAnswers := by
  unfold Obligations.DemandReadAnswers
  intro s base k hr hbase slot read left
  have hread : read = .next (s.demandRead k) := hostRead_demandRead hr hbase
  rw [hread]
  refine ⟨fun v n hslot => ⟨_, fun e he => deliveredWord_watched he v, fun h => deliveredWord_unwatched h v, ?_⟩,
    fun n hslot => ?_, fun hslot hstate => ?_, fun hslot hstate halone => ?_, fun hslot hstate hleft => ?_,
    fun hslot hne hstate hleft => ?_⟩
  all_goals refine congrArg Host.Outcome.next ?_
  · simp only [State.demandRead, show (s.link k.link).demand = _ from hslot, if_true]
    rfl
  · simp only [State.demandRead, show (s.link k.link).demand = _ from hslot, if_true]
    rfl
  · rw [demandRead_start hslot, State.startDemand, if_pos hstate]
    rfl
  · rw [demandRead_start hslot, State.startDemand, if_neg (not_not_intro hstate), if_pos ((leftAlone_iff _).mpr halone)]
    rfl
  · have hnot := (leftAlone_eq_false_iff _).mpr hleft
    have hready : ∀ r n, (s.link k.link).demand ≠ .ready k r n := fun r n h => nomatch hslot.symm.trans h
    rw [demandRead_start hready, State.startDemand, if_neg (not_not_intro hstate), hnot]
    simp only [Bool.false_eq_true, if_false, show (s.link k.link).demand = _ from hslot]
    rfl
  · have hnot := (leftAlone_eq_false_iff _).mpr hleft
    rw [demandRead_start hslot, State.startDemand, if_neg (not_not_intro hstate), hnot]
    simp only [Bool.false_eq_true, if_false]
    split
    next hempty => exact absurd hempty hne
    all_goals rfl

/-! ## TAKE (R56, R57) -/

theorem exec_take {s : State} (hr : s.rstLow = false) : exec (.take 0xF#4) s = .next s.takeRead := by
  refine congrArg Host.Outcome.next ?_
  simp only [State.hostRead, hr]
  rfl

theorem toNat_takeWord (r : ChangeRecord) :
    r.takeWord.toNat =
      2 ^ 31 + r.count % 16 * 2 ^ 24 + r.key.link.val * 2 ^ 14 + r.key.station.val * 2 ^ 8 + r.key.register.toNat := by
  change (BitVec.ofBool true ++ 0#3 ++ BitVec.ofNat 4 r.count ++ 0#8 ++ BitVec.ofNat 2 r.key.link.val
    ++ BitVec.ofNat 6 r.key.station.val ++ r.key.register).toNat = _
  simp only [toNat_append_eq_add, BitVec.toNat_ofNat, BitVec.toNat_ofBool, Bool.toNat_true]
  omega

theorem toNat_taken1 (r : ChangeRecord) : r.taken1.toNat = r.reasons.toNat * 2 ^ 16 + r.oldValue.toNat := by
  change (0#8 ++ r.reasons ++ r.oldValue).toNat = _
  simp only [toNat_append_eq_add, BitVec.toNat_ofNat]
  omega

theorem toNat_taken3 (n : Nat) : (taken3 n).toNat = n % 1024 := by
  change (0#22 ++ BitVec.ofNat 10 n).toNat = _
  simp only [toNat_append_eq_add, BitVec.toNat_ofNat]
  omega

theorem takeWord_fields (r : ChangeRecord) (hcount : r.count ≤ 15) :
    field r.takeWord 7 0 = r.key.register.toNat ∧ field r.takeWord 13 8 = r.key.station.val ∧
      field r.takeWord 15 14 = r.key.link.val ∧ field r.takeWord 23 16 = 0 ∧ field r.takeWord 27 24 = r.count ∧
      field r.takeWord 30 28 = 0 ∧ field r.takeWord 31 31 = 1 := by
  have hregister := r.key.register.isLt
  simp only [field, toNat_takeWord]
  omega

theorem taken1_fields (r : ChangeRecord) :
    field r.taken1 15 0 = r.oldValue.toNat ∧ field r.taken1 23 16 = r.reasons.toNat ∧ field r.taken1 31 24 = 0 := by
  have hreasons := r.reasons.isLt
  have hold := r.oldValue.isLt
  simp only [field, toNat_taken1]
  omega

/-- Each reason stands at its bit of TAKEN1 (Table 77). -/
theorem getLsbD_taken1 {r : ChangeRecord} {rs : List Reason} (h : r.reasons = reasonSet rs) (x : Reason) :
    r.taken1.getLsbD (16 + reasonPlace x) = decide (x ∈ rs) := by
  have hplace : reasonPlace x < 8 := by cases x <;> decide
  rw [← getLsbD_reasonSet, ← h, ChangeRecord.taken1, BitVec.getLsbD_append, BitVec.getLsbD_append]
  simp [hplace]

/-- Settles O31, by whether the list is empty. -/
theorem takeRemovesTheOldest : Obligations.TakeRemovesTheOldest := by
  unfold Obligations.TakeRemovesTheOldest
  refine ⟨fun s hr hlist => ?_, fun s r rest e hr hlist he hcount => ?_⟩
  · rw [exec_take hr, State.takeRead, hlist]
    rfl
  · refine ⟨r.takeWord, r.taken1, s.taken2 r, taken3 rest.length, takeWord_fields r hcount, taken1_fields r,
      fun rs hrs x => getLsbD_taken1 hrs x, ⟨e.stale, stale_iff e, ?_⟩, ?_, ?_⟩
    · simp only [State.taken2, he, ← toNat_stateCode]
      exact isResponse ..
    · simp only [field, toNat_taken3]
      omega
    · rw [exec_take hr, State.takeRead, hlist]
      simp only [oldestLost_eq]
      rfl

end Sys2Proof.Machine
end

section
/-! PROOFS. The poll wheel and the arbiter (04, 05): what a capture gathers, a slot tick as a whole, the expiries, and what
a pick takes. -/

namespace Sys2Proof.Machine

/-! ## What a capture gathers (R74, R75) -/

theorem dueAt_iff (e : Entry) (position : Fin 64) :
    e.dueAt position = true ↔
      e.state = .priming ∨ e.state = .settling ∨ e.state = .doubtful ∨
        (e.state = .valid ∧ e.periodCode.val ≠ 0 ∧ position.val % 2 ^ (e.periodCode.val - 1) = e.phase.val) := by
  unfold Entry.dueAt period
  by_cases hnever : e.periodCode = 0
  · cases hstate : e.state <;> simp [hnever]
  · have hcode : e.periodCode.val ≠ 0 := fun h => hnever (Fin.ext h)
    cases hstate : e.state <;> simp [hnever, hcode]

theorem mem_probeTargets (s : State) (l : LinkNo) (st : StationNo) :
    st ∈ s.probeTargets l ↔ (s.station l st).standing = .missing ∧
      ∃ e ∈ s.table, e.key.link = l ∧ e.key.station = st := by
  have hcount : 1 ≤ s.entryCount l st ↔ ∃ e ∈ s.table, e.key.link = l ∧ e.key.station = st := by
    rw [Nat.one_le_iff_ne_zero, ← Nat.pos_iff_ne_zero, State.entryCount, List.countP_pos_iff]
    simp only [Bool.and_eq_true, beq_iff_eq]
  rw [State.probeTargets, List.mem_filter, Bool.and_eq_true, isMissing_iff, decide_eq_true_eq, hcount]
  exact and_iff_right (List.mem_finRange st)

theorem probeTargets_pairwise (s : State) (l : LinkNo) : (s.probeTargets l).Pairwise (· < ·) :=
  (List.pairwise_lt_finRange 63).filter _

/-- A key put among ascending keys of other ranks keeps them ascending. -/
theorem insertKey_pairwise {k : Key} {ks : List Key} (hks : ks.Pairwise (fun a b => a.captureRank < b.captureRank))
    (hk : ∀ x ∈ ks, k.captureRank ≠ x.captureRank) :
    (insertKey k ks).Pairwise (fun a b => a.captureRank < b.captureRank) := by
  induction ks with
  | nil => exact List.pairwise_singleton _ k
  | cons y ys ih =>
    obtain ⟨hhead, htail⟩ := List.pairwise_cons.mp hks
    unfold insertKey
    split
    next hlt =>
      refine List.pairwise_cons.mpr ⟨fun x hx => ?_, hks⟩
      obtain rfl | hx := List.mem_cons.mp hx
      · exact hlt
      · exact hlt.trans (hhead x hx)
    next hle =>
      refine List.pairwise_cons.mpr ⟨fun x hx => ?_, ih htail fun x hx => hk x (List.mem_cons_of_mem y hx)⟩
      obtain rfl | hx := (mem_insertKey k x ys).mp hx
      · exact lt_of_le_of_ne (Nat.not_lt.mp hle) (hk y List.mem_cons_self).symm
      · exact hhead x hx

theorem inCaptureOrder_pairwise {ks : List Key} (hks : ks.Pairwise (fun a b => a.captureRank ≠ b.captureRank)) :
    (inCaptureOrder ks).Pairwise (fun a b => a.captureRank < b.captureRank) := by
  induction ks with
  | nil => exact .nil
  | cons k ks ih =>
    obtain ⟨hhead, htail⟩ := List.pairwise_cons.mp hks
    exact insertKey_pairwise (ih htail) fun x hx => hhead x ((mem_inCaptureOrder x ks).mp hx)

/-- Keys of one link are told apart by their rank (R75). -/
theorem eq_of_captureRank {a b : Key} (hlink : a.link = b.link) (h : a.captureRank = b.captureRank) : a = b := by
  obtain ⟨al, as, ar⟩ := a
  obtain ⟨bl, bs, br⟩ := b
  simp only [Key.captureRank] at h hlink
  have ha := ar.isLt
  have hb := br.isLt
  have hst : as = bs := Fin.ext (by omega)
  have hreg : ar = br := BitVec.eq_of_toNat_eq (by omega)
  rw [hlink, hst, hreg]

theorem pollTargets_pairwise {s : State} (hs : s.TableSound) (l : LinkNo) (position : Fin 64) :
    (s.pollTargets l position).Pairwise (fun a b => a.captureRank < b.captureRank) := by
  refine inCaptureOrder_pairwise (List.pairwise_map.mpr ?_)
  refine (List.pairwise_filter.mpr (hs.distinct_key.imp fun {a b} hne ha hb => ?_))
  simp only [Bool.and_eq_true, beq_iff_eq] at ha hb
  exact fun hrank => hne (eq_of_captureRank (ha.1.1.trans hb.1.1.symm) hrank)

/-- Settles O37: the probes and the polls of a capture, each by membership and order. -/
theorem captureGathersTheDue : Obligations.CaptureGathersTheDue := by
  unfold Obligations.CaptureGathersTheDue
  intro s l position hs
  have hzero : position = 0 ↔ position.val = 0 := Fin.ext_iff
  refine ⟨if position = 0 then s.probeTargets l else [], s.pollTargets l position, ?_, ?_,
    pollTargets_pairwise hs l position, fun st => ?_, fun k => ?_⟩
  · rw [State.capture, apply_ite (List.map BatchItem.probe)]
    rfl
  · split
    · exact probeTargets_pairwise s l
    · exact .nil
  · by_cases hp : position = 0
    · simp [hp, mem_probeTargets]
    · simp [hp, ← hzero]
  · rw [mem_pollTargets]
    constructor
    · rintro ⟨e, he, ⟨hlink, hdue, halone⟩, rfl⟩
      exact ⟨hlink, e, he, rfl, (leftAlone_eq_false_iff _).mp halone, (dueAt_iff e position).mp hdue⟩
    · rintro ⟨hlink, e, he, rfl, halone, hdue⟩
      exact ⟨e, he, ⟨hlink, (dueAt_iff e position).mpr hdue, (leftAlone_eq_false_iff _).mpr halone⟩, rfl⟩

/-- A capture sees of an entry its key and whether it is due. -/
theorem capture_map (s : State) (l : LinkNo) (position : Fin 64) {g : Entry → Entry} (hkey : ∀ e, (g e).key = e.key)
    (hdue : ∀ e, (g e).dueAt position = e.dueAt position) :
    ({ s with table := s.table.map g } : State).capture l position = s.capture l position := by
  have hprobe : ({ s with table := s.table.map g } : State).probeTargets l = s.probeTargets l := by
    unfold State.probeTargets
    congr 1
    funext st
    simp only [State.entryCount, List.countP_map, Function.comp_def, hkey]
    rfl
  have hpoll : ({ s with table := s.table.map g } : State).pollTargets l position = s.pollTargets l position := by
    simp only [State.pollTargets, List.filter_map, List.map_map, Function.comp_def, hkey, hdue]
    rfl
  rw [State.capture, State.capture, hprobe, hpoll]

/-! ## The draw-time checks (R79) -/

theorem drawable_iff (x : EntryState) : x.drawable = true ↔ x ≠ .writing ∧ x ≠ .refused ∧ x ≠ .orphaned := by
  cases x <;> simp [EntryState.drawable]

theorem passes_poll_iff (s : State) (l : LinkNo) (held : List StationNo) (key : Key) :
    s.passes l held (.poll key) = true ↔
      ∃ e, s.find key = some e ∧ e.state ≠ .writing ∧ e.state ≠ .refused ∧ e.state ≠ .orphaned ∧
        ((s.station l key.station).standing = .unseen ∨ (s.station l key.station).standing = .present) ∧
        key.station ∉ held := by
  cases hfind : s.find key with
  | none => simp [State.passes, hfind]
  | some e =>
    have hdraw := drawable_iff e.state
    have halone := leftAlone_eq_false_iff (s.station l key.station)
    have hheld : held.contains key.station = false ↔ key.station ∉ held := by
      rw [← List.contains_iff_mem, Bool.not_eq_true]
    simp only [State.passes, hfind, Bool.and_eq_true, Bool.not_eq_true', halone, hdraw, Option.some.injEq,
      exists_eq_left', hheld]
    tauto

theorem passes_probe_iff (s : State) (l : LinkNo) (held : List StationNo) (st : StationNo) :
    s.passes l held (.probe st) = true ↔ (s.station l st).standing = .missing := isMissing_iff _

/-! ## The slot tick (R72) -/

/-- The demand slot after a tick (R159). -/
def DemandSlot.ticked : DemandSlot → DemandSlot
  | .ready key result n => if n ≤ 1 then .empty else .ready key result (n - 1)
  | .empty => .empty
  | .waiting key => .waiting key
  | .inFlight key => .inFlight key

/-- A READY result is in its last slot (R159). -/
def DemandSlot.lastSlot : DemandSlot → Bool
  | .ready _ _ n => decide (n ≤ 1)
  | .empty | .waiting _ | .inFlight _ => false

theorem lastSlot_iff (d : DemandSlot) :
    d.lastSlot = true ↔ (∃ key v, d = .ready key v 1) ∨ ∃ key v, d = .ready key v 0 := by
  cases d with
  | ready key v n =>
    simp only [DemandSlot.lastSlot, decide_eq_true_eq, DemandSlot.ready.injEq]
    constructor
    · intro h
      obtain rfl | rfl : n = 1 ∨ n = 0 := by omega
      · exact .inl ⟨key, v, rfl, rfl, rfl⟩
      · exact .inr ⟨key, v, rfl, rfl, rfl⟩
    · rintro (⟨-, -, -, -, rfl⟩ | ⟨-, -, -, -, rfl⟩)
      · exact Nat.le_refl 1
      · exact Nat.zero_le 1
  | _ => simp [DemandSlot.lastSlot]

/-- The latched events after a tick with `n` items dropped (R73, R159). -/
def Link.tickedEvents (k : Link) (n : Nat) : BitVec 6 :=
  let overrun := if n = 0 then k.events else k.events ||| LinkEvent.slotOverrun.bit
  if k.demand.lastSlot then overrun ||| LinkEvent.demandExpired.bit else overrun

theorem demandTick_eq (k : Link) :
    k.demandTick =
      { k with
        demand := k.demand.ticked
        events := if k.demand.lastSlot then k.events ||| LinkEvent.demandExpired.bit else k.events } := by
  unfold Link.demandTick
  cases hd : k.demand with
  | ready key v n =>
    by_cases hn : n ≤ 1
    · simp only [hn, if_true, DemandSlot.ticked, DemandSlot.lastSlot, decide_true]
      rfl
    · simp only [hn, if_false, DemandSlot.ticked, DemandSlot.lastSlot, decide_false]
      rfl
  | empty | waiting | inFlight =>
    simp only [DemandSlot.ticked, DemandSlot.lastSlot, ← hd, Bool.false_eq_true, if_false]

/-- The countdowns of a tick as one update of the column (R73, R131, R159). -/
theorem countedDown_eq (k : Link) (n : Nat) :
    k.countedDown n =
      { k with
        dropped := if n = 0 then k.dropped else n
        stations := k.stations.map StationRecord.tick
        endedHolds := []
        demand := k.demand.ticked
        events := k.tickedEvents n } := by
  rw [Link.countedDown, demandTick_eq]
  by_cases hn : n = 0
  · simp only [Link.overrun, hn, if_true, Link.tickedEvents]
    rfl
  · simp only [Link.overrun, hn, if_false, Link.tickedEvents]
    rfl

theorem getLsbD_bit_slotOverrun (i : Nat) : LinkEvent.slotOverrun.bit.getLsbD i = decide (i = 2) := by
  have h : LinkEvent.slotOverrun.bit = BitVec.twoPow 6 2 := by decide
  rw [h, BitVec.getLsbD_twoPow]
  simp [eq_comm]

theorem getLsbD_bit_demandExpired (i : Nat) : LinkEvent.demandExpired.bit.getLsbD i = decide (i = 3) := by
  have h : LinkEvent.demandExpired.bit = BitVec.twoPow 6 3 := by decide
  rw [h, BitVec.getLsbD_twoPow]
  simp [eq_comm]

theorem getLsbD_tickedEvents (k : Link) (n i : Nat) :
    (k.tickedEvents n).getLsbD i =
      (k.events.getLsbD i || (n != 0 && decide (i = 2)) || (k.demand.lastSlot && decide (i = 3))) := by
  unfold Link.tickedEvents
  have hne : (n != 0) = !decide (n = 0) := rfl
  by_cases hn : n = 0 <;> cases k.demand.lastSlot <;>
    simp [hn, hne, BitVec.getLsbD_or, getLsbD_bit_slotOverrun, getLsbD_bit_demandExpired]

/-- The column after a tick with `n` items dropped and `batch` captured (R72). -/
def Link.afterTick (k : Link) (n : Nat) (batch : List BatchItem) : Link :=
  { k with
    position := k.position + 1
    slotTimer := .running ⟨64 * k.slotSetting, 0⟩
    dropped := if n = 0 then k.dropped else n
    events := k.tickedEvents n
    demand := k.demand.ticked
    stations := k.stations.map StationRecord.tick
    endedHolds := []
    batch := batch }

/-- The state the capture of a tick looks at: the holds have counted down (R76). -/
def State.holdsCounted (s : State) (l : LinkNo) : State :=
  s.updLink l (fun c => { c with stations := c.stations.map StationRecord.tick })

theorem capture_tickOwners (s : State) (l : LinkNo) (position : Fin 64) :
    (s.tickOwners l).capture l position = (s.holdsCounted l).capture l position := by
  rw [← capture_map (s.holdsCounted l) l position (g := fun e => if e.key.link = l then e.aged else e)
    (fun e => by split <;> rfl) (fun e => by split <;> rfl)]
  refine capture_congr l position (fun st => ?_) rfl
  have hticked : ((s.tickOwners l).link l).stations = ((s.holdsCounted l).link l).stations := by
    rw [link_tickOwners, countedDown_eq, State.holdsCounted, link_updLink_same]
  exact congrArg (fun stations : Vector StationRecord 63 => stations[st]) hticked

/-- The entries of a link a slot older (R21). -/
def State.aged (s : State) (l : LinkNo) : State :=
  { s with table := s.table.map (fun e => if e.key.link = l then e.aged else e) }

/-- A tick as one update of the column and of the ages, before the pick (R72, R77). -/
theorem recapture_tickOwners (s : State) (l : LinkNo) :
    (s.tickOwners l).recapture l =
      (s.updLink l (fun k =>
        k.afterTick (s.overrunItems l).length ((s.holdsCounted l).capture l (k.position + 1)))).aged l := by
  have hposition : ((s.tickOwners l).link l).position = (s.link l).position + 1 := by
    rw [link_tickOwners, countedDown_eq]
  rw [State.recapture, hposition, capture_tickOwners]
  generalize hbatch : (s.holdsCounted l).capture l ((s.link l).position + 1) = batch
  refine (congrArg (State.aged · l) (updLink_updLink s l (fun k => { k.countedDown (s.overrunItems l).length with
    position := (k.countedDown (s.overrunItems l).length).position + 1
    slotTimer := (k.countedDown (s.overrunItems l).length).fullSlot
    batch := [] }) (fun k => { k with batch := batch }))).trans ?_
  refine congrArg (State.aged · l) (updLink_congr s l ?_)
  simp only [countedDown_eq, hbatch]
  rfl

/-- Settles O36: a tick is the update of its column and of the ages of its entries, and then a pick. -/
theorem slotTick : Obligations.SlotTick := by
  unfold Obligations.SlotTick
  refine ⟨fun s l hstate => congrArg _ (if_neg hstate), ?_⟩
  intro s l hstate k counts expires counted
  have hcheck : ∀ i, s.passes l k.endedHolds i = true ↔ counts i := fun i => by
    cases i with
    | poll key => exact passes_poll_iff s l k.endedHolds key
    | probe st => exact passes_probe_iff s l k.endedHolds st
  have hdropped : (s.overrunItems l).length = k.batch.countP (s.passes l k.endedHolds) :=
    List.countP_eq_length_filter.symm
  refine ⟨s.passes l k.endedHolds, hcheck, ?_⟩
  intro dropped
  refine ⟨_, k.demand.ticked, k.tickedEvents dropped, ?_, rfl, ?_, ?_, fun i h2 h3 => ?_, fun key v n hd => ?_,
    fun hd => ?_⟩
  · refine congrArg Host.Outcome.next ?_
    rw [State.slotTick, if_pos hstate, recapture_tickOwners, hdropped]
    exact congrArg (fun u : State => (u.aged l).arbitrate l) (updLink_congr s l rfl)
  · rw [getLsbD_tickedEvents]
    simp
  · rw [getLsbD_tickedEvents]
    simp [lastSlot_iff, expires]
  · rw [getLsbD_tickedEvents]
    simp [h2, h3]
  · rw [hd]
    rfl
  · cases hcase : k.demand with
    | ready key v n => exact absurd hcase (hd key v n)
    | _ => rfl

/-! ## Expiries (R62, R131, R159) -/

/-- Settles O38: each expiry by the one case of its definition in which something runs out. -/
theorem expiries : Obligations.Expiries := by
  unfold Obligations.Expiries
  refine ⟨fun r => ⟨fun src n hr => ?_, fun hr => ?_⟩, fun s l st src hstate hst => ?_, fun s l key v hstate hd => ?_,
    fun s t ht => ⟨_, ?_, rfl, fun hlinger => ?_⟩⟩
  · simp only [StationRecord.tick, hr]
    split <;> rfl
  · unfold StationRecord.tick
    split
    next source n hstanding => exact absurd hstanding (hr source n)
    all_goals rfl
  · refine congrArg Host.Outcome.next ?_
    simp only [State.holdExpiry, hst, hstate, Nat.le_refl, and_self, if_true]
    rfl
  · refine congrArg Host.Outcome.next ?_
    simp only [State.demandExpiry, hd, hstate, Nat.le_refl, and_self, if_true]
    refine updLink_congr s l ?_
    simp only [Link.demandTick, hd, Nat.le_refl, if_true]
    rfl
  · refine congrArg Host.Outcome.next ?_
    simp only [State.lingerExpiry, ht]
  · simp [State.noticeCondition, hlinger]

/-! ## The pick (R97, R98, R99) -/

/-- The WRITE group is eligible by its head (R97, R141). -/
theorem writeEligible_iff (k : Link) :
    k.writeEligible = true ↔ ∃ r behind, k.queue = r :: behind ∧
      (r.dest = .broadcast ∨ ∃ st, r.dest = .station st ∧ ∀ h, (k.station st).standing ≠ .held h) := by
  unfold Link.writeEligible
  split
  next hq => simp [hq]
  next r behind hq =>
    simp only [hq, List.cons.injEq]
    split
    next hd => simp [hd]
    next st hd => simp [hd, isHeld_eq_false_iff]

theorem demandEligible_iff (k : Link) : k.demandEligible = true ↔ ∃ key, k.demand = .waiting key := by
  unfold Link.demandEligible
  cases k.demand <;> simp

/-- A pick is the first eligible group of the cycle (R98). -/
theorem arbitrate_of_nextGroup {s : State} {l : LinkNo} {g : Group} (hstate : (s.link l).state = .running)
    (hf : (s.link l).inFlight = none) (hg : s.nextGroup l = some g) : s.arbitrate l = s.issue l g := by
  rw [State.arbitrate, if_pos ⟨hstate, hf⟩, hg]

/-- Settles O49: the group by the pointer and the eligible groups, and the hand-over of each group. -/
theorem arbiterPick : Obligations.ArbiterPick := by
  unfold Obligations.ArbiterPick
  intro s l k write demand passing poll first
  have hwrite : s.eligible l .write = true ↔ write := writeEligible_iff k
  have hdemand : s.eligible l .demand = true ↔ demand := demandEligible_iff k
  have hpassing : ∀ i, s.passes l [] i = true ↔ passing i := fun i => by
    cases i with
    | poll key => simpa using passes_poll_iff s l [] key
    | probe st => exact passes_probe_iff s l [] st
  have hpoll : s.eligible l .poll = true ↔ poll := by
    simp only [State.eligible, State.pollEligible, List.any_eq_true, hpassing]
    rfl
  have hnot : ∀ {g : Group} {P : Prop}, (s.eligible l g = true ↔ P) → ¬ P → s.eligible l g = false := fun h hP =>
    Bool.eq_false_iff.mpr (mt h.mp hP)
  have hnext : ∀ g, first g → s.nextGroup l = some g := fun g hg => by
    have hpointer : (s.link l).pointer = k.pointer := rfl
    simp only [first] at hg
    unfold State.nextGroup
    rw [hpointer]
    cases g <;> cases hp : k.pointer <;> simp only [hp] at hg <;> simp only [Group.cycleAfter]
    case write.poll => simp [hwrite.mpr hg]
    case demand.write => simp [hdemand.mpr hg]
    case poll.demand => simp [hpoll.mpr hg]
    case write.demand => simp [hwrite.mpr hg.1, hnot hpoll hg.2]
    case demand.poll => simp [hdemand.mpr hg.1, hnot hwrite hg.2]
    case poll.write => simp [hpoll.mpr hg.1, hnot hdemand hg.2]
    case write.write => simp [hwrite.mpr hg.1, hnot hdemand hg.2.1, hnot hpoll hg.2.2]
    case demand.demand => simp [hdemand.mpr hg.1, hnot hpoll hg.2.1, hnot hwrite hg.2.2]
    case poll.poll => simp [hpoll.mpr hg.1, hnot hwrite hg.2.1, hnot hdemand hg.2.2]
  refine ⟨fun h => ?_, fun hstate hf => ⟨?_, ?_, ?_⟩⟩
  · obtain ⟨-, hsame⟩ | ⟨-, -, -, hsame⟩ | ⟨g, hstate, hf, -, helig, -⟩ := arbitrate_cases s l
    · exact hsame
    · exact hsame
    · obtain hstate' | hf' | ⟨hw, hd, hp⟩ := h
      · exact absurd hstate hstate'
      · exact absurd hf hf'
      · cases g with
        | write => exact absurd (hwrite.mp helig) hw
        | demand => exact absurd (hdemand.mp helig) hd
        | poll => exact absurd (hpoll.mp helig) hp
  · intro r behind hfirst hq tx
    rw [arbitrate_of_nextGroup hstate hf (hnext .write hfirst)]
    refine updLink_congr s l ?_
    have hqueue : (s.link l).queue = r :: behind := hq
    simp only [Link.issueWrite, hqueue]
    rfl
  · intro key hfirst hd tx
    rw [arbitrate_of_nextGroup hstate hf (hnext .demand hfirst)]
    refine updLink_congr s l ?_
    have hdemand : (s.link l).demand = .waiting key := hd
    simp only [Link.issueDemand, hdemand]
    rfl
  · intro skipped i behind hfirst hb hskip hi tx
    rw [arbitrate_of_nextGroup hstate hf (hnext .poll hfirst)]
    refine updLink_congr s l ?_
    have hbatch : (s.link l).batch = skipped ++ i :: behind := hb
    have hdrop : (s.link l).batch.dropWhile (fun x => !s.passes l [] x) = i :: behind := by
      rw [hbatch, List.dropWhile_append_of_pos fun x hx => by simpa using mt (hpassing x).mp (hskip x hx)]
      exact List.dropWhile_cons_of_neg (by simpa using (hpassing i).mpr hi)
    simp only [Link.issuePoll, hdrop]
    cases i <;> rfl

end Sys2Proof.Machine
end

section
/-! PROOFS. Attempts and completions (02, 05, 06, 07): the phases of a line, the attempts that are followed by another, and
what each completion does, as one column update, one event at the table and the last act. -/

namespace Sys2Proof.Machine

/-! ## The phases of a line (R99, R111, R114, R120) -/

theorem exec_restEnd_of_rest {s : State} {l : LinkNo} (hr : s.rstLow = false) (hrest : (s.link l).line.rest ≠ .none) :
    (if (s.link l).line.rest = .gap then exec (.gapEnd l) s else exec (.quietTimeEnd l) s) =
      .next (s.updLink l (fun k => { k with line := k.line.rested k.inFlight })) := by
  have hend : ∀ which, (s.link l).line.rest = which →
      s.restEnd l which = s.updLink l (fun k => { k with line := k.line.rested k.inFlight }) := fun which h =>
    if_pos ⟨hr, h⟩
  cases h : (s.link l).line.rest with
  | none => exact absurd h hrest
  | gap => exact congrArg Host.Outcome.next (hend .gap h)
  | quiet => exact congrArg Host.Outcome.next (hend .quiet h)

/-- Settles O39: each start and end of a rest by the phase it meets. -/
theorem phasesOfTheLine : Obligations.PhasesOfTheLine := by
  unfold Obligations.PhasesOfTheLine
  refine ⟨fun n tx => ⟨fun h => ?_, fun h => ?_⟩, ?_, fun s l tx st hf hst hphase => congrArg Host.Outcome.next ?_⟩
  · rw [LineState.issue, h]
    rfl
  · unfold LineState.issue
    split
    next hrest => exact absurd hrest h
    all_goals rfl
  · intro s l rest hr hrest ends n lead hne
    have hends : ends = .next (s.updLink l (fun k => { k with line := k.line.rested k.inFlight })) := by
      subst hrest
      exact exec_restEnd_of_rest hr hne
    refine ⟨fun tx hf hphase => hends.trans (congrArg _ (updLink_congr s l ?_)),
      fun tx hf hphase => hends.trans (congrArg _ (updLink_congr s l ?_)),
      fun hf hphase => hends.trans (congrArg _ (updLink_congr s l ?_))⟩
    · simp only [LineState.rested, hf, show (s.link l).line.phase = .gap from hphase]
      rfl
    · simp only [LineState.rested, hf, show (s.link l).line.phase = .wait from hphase]
      rfl
    · simp only [LineState.rested, hf, show (s.link l).line.phase = .idle from hphase]
  · have hbroadcast : tx.isBroadcast = false := by
      cases tx with
      | broadcast => cases hst
      | _ => rfl
    simp only [State.requestSentWhole, hf, hphase, hbroadcast, and_self, if_true]
    rfl

/-! ## Outcomes at an entry (R8, R31 to R35, R38, R39) -/

theorem changedBy_iff (e : Entry) (v : Value) :
    e.changedBy v = true ↔ ∃ i, i < 16 ∧ e.mask.getLsbD i = true ∧ e.value.getLsbD i ≠ v.getLsbD i := by
  have hzero : e.changedBy v = true ↔ (e.value ^^^ v) &&& e.mask ≠ 0#16 := by
    rw [Entry.changedBy, bne_iff_ne]
  rw [hzero]
  constructor
  · intro hne
    by_contra hnone
    push Not at hnone
    refine hne (BitVec.eq_of_getLsbD_eq fun i hi => ?_)
    rw [BitVec.getLsbD_and, BitVec.getLsbD_xor]
    cases hmask : e.mask.getLsbD i with
    | false => simp
    | true => simp [hnone i hi hmask]
  · rintro ⟨i, -, hmask, hdiffer⟩ hsame
    have hbit := congrArg (BitVec.getLsbD · i) hsame
    simp [hmask, hdiffer] at hbit

theorem onAck_of_confirmable {e : Entry} (v : Value)
    (h : e.state = .valid ∨ e.state = .settling ∨ e.state = .doubtful ∨ e.state = .refused) :
    e.onAck v = (e.confirmed v, if e.changedBy v then [.changed] else []) := by
  obtain h | h | h | h := h <;> rw [Entry.onAck, h]

/-- Settles O42, by the state of the entry and the outcome. -/
theorem outcomesAtAnEntry : Obligations.OutcomesAtAnEntry := by
  unfold Obligations.OutcomesAtAnEntry
  refine ⟨fun e v => ⟨fun h => ?_, fun h => ⟨fun hd => ?_, fun hd => ?_⟩, fun h => ?_, fun h => ?_, fun h => ?_,
    fun h => ?_, fun h => ?_, fun q => rfl⟩, fun e => ⟨fun o h => if_pos h, fun o bad rs hpos ho => ?_⟩⟩
  · rw [Entry.onAck, h]
    rfl
  · rw [onAck_of_confirmable v h, if_pos ((changedBy_iff e v).mpr hd)]
    rfl
  · rw [onAck_of_confirmable v h, if_neg (mt (changedBy_iff e v).mp hd)]
    rfl
  · obtain h | h | h | h := h <;> rw [Entry.onRejected, h]
  · rw [Entry.onRejected, h]
  · unfold Entry.onFailedRead
    split
    next hwriting => exact absurd hwriting h
    all_goals
      cases hfailing : e.failing with
      | false => rfl
      | true => simp [← hfailing]
  · obtain h | h := h <;> simp only [Entry.onAck, Entry.onRejected, h, and_self]
  · rw [Entry.onFailedRead, h]
  · have hpending : e.pending ≠ 0 := Nat.pos_iff_ne_zero.mp hpos
    simp only [List.mem_cons, Prod.mk.injEq, List.not_mem_nil, or_false] at ho
    obtain ⟨rfl, rfl, rfl⟩ | ⟨rfl, rfl, rfl⟩ | ⟨rfl, rfl, rfl⟩ | ⟨rfl, rfl, rfl⟩ := ho <;>
      simp [Entry.onWriteCompletion, Entry.lowered, hpending]

/-! ## The end of an attempt (R113 to R118) -/

theorem retried_iff (tx : Transaction) (c : AttemptClass) :
    c.retried tx = true ↔ c = .contended ∨ (tx.isRead = true ∧ (c = .silent ∨ c = .garbled)) := by
  cases c <;> simp [AttemptClass.retried]

section
variable {s : State} {l : LinkNo} {tx : Transaction} {sld : List Bool} {c : AttemptClass}

theorem exec_attemptEnd_of_attempting (h : Attempting s l tx sld c) :
    exec (.attemptEnd l sld) s = .next (s.endAttempt l tx c) := by
  obtain ⟨hf, hway, rfl⟩ := h
  exact congrArg Host.Outcome.next (attemptEnd_of_underWay s sld hf ((underWay_iff _).mpr hway))

/-- An attempt that no other follows completes its transaction (R102). -/
theorem exec_attemptEnd_completes (h : Attempting s l tx sld c) (hlast : LastAttempt s l ∨ c.retried tx = false) :
    exec (.attemptEnd l sld) s = .next (s.complete l tx (c.outcome tx) c) := by
  rw [exec_attemptEnd_of_attempting h, State.endAttempt, if_neg]
  intro hretry
  rw [Bool.and_eq_true, decide_eq_true_eq] at hretry
  obtain hlast | hnot := hlast
  · exact absurd hretry.2 (Nat.not_le.mpr hlast)
  · exact absurd hretry.1 (Bool.eq_false_iff.mp hnot)

end

/-- Settles O40: the class asks for another attempt, and one remains. -/
theorem attemptIsRetried : Obligations.AttemptIsRetried := by
  unfold Obligations.AttemptIsRetried
  intro s l tx sld c h hc hnot
  rw [exec_attemptEnd_of_attempting h, State.endAttempt, if_pos]
  · rfl
  · rw [Bool.and_eq_true, decide_eq_true_eq]
    exact ⟨(retried_iff tx c).mpr hc, Nat.not_lt.mp hnot⟩

/-! ## The parts of a completion (R102) -/

theorem finished_eq (s : State) (l : LinkNo) : s.afterCompletion l = s.finished l := by
  simp only [State.afterCompletion, enterHalted_eq]
  rfl

theorem outcome_eq_blocked (tx : Transaction) (c : AttemptClass) : c.outcome tx = .blocked ↔ c = .contended := by
  cases c <;> cases hread : tx.isRead <;> simp [AttemptClass.outcome, hread]

/-- The column of a completed transaction, the station table apart, over the freed line (R102, R104, R119). -/
theorem settle_outcome {k : Link} (tx : Transaction) {c : AttemptClass} (hrun : c = .contended → k.blockedRun ≤ 3) :
    k.settle tx (c.outcome tx) =
      { k.freed (if c = .contended then k.blockedRun + 1 else 0) with
        queue := settledQueue tx (c.outcome tx) k.queue
        demand := k.demand.settled tx (c.outcome tx)
        fault := k.fault.settled tx (c.outcome tx)
        events := settledEvents tx (c.outcome tx) k.events } := by
  have hblocked : (if c.outcome tx = .blocked then min Config.lineFaultRun (k.blockedRun + 1) else 0) =
      if c = .contended then k.blockedRun + 1 else 0 := by
    by_cases hc : c = .contended
    · rw [if_pos ((outcome_eq_blocked tx c).mpr hc), if_pos hc]
      exact Nat.min_eq_right (Nat.succ_le_succ (hrun hc))
    · rw [if_neg (mt (outcome_eq_blocked tx c).mp hc), if_neg hc]
  rw [settle_eq, hblocked]
  rfl

/-- A read leaves the queue, the fault record and the events of its link (R102). -/
theorem settle_read {k : Link} {tx : Transaction} {c : AttemptClass} (hread : tx.isRead = true)
    (hrun : c = .contended → k.blockedRun ≤ 3) :
    k.settle tx (c.outcome tx) =
      { k.freed (if c = .contended then k.blockedRun + 1 else 0) with
        demand := k.demand.settled tx (c.outcome tx) } := by
  have hfault : k.fault.settled tx (c.outcome tx) = k.fault := by
    cases tx with
    | write | broadcast => cases hread
    | _ => rfl
  have hevents : settledEvents tx (c.outcome tx) k.events = k.events := if_pos (Or.inl hread)
  have hqueue : settledQueue tx (c.outcome tx) k.queue = k.queue := if_pos hread
  rw [settle_outcome tx hrun, hfault, hqueue, hevents]
  rfl

@[simp] theorem settle_stations (k : Link) (tx : Transaction) (o : FinalOutcome) :
    (k.settle tx o).stations = k.stations := by
  rw [settle_eq]

@[simp] theorem settle_missLimit (k : Link) (tx : Transaction) (o : FinalOutcome) :
    (k.settle tx o).missLimit = k.missLimit := by
  rw [settle_eq]

@[simp] theorem settle_station (k : Link) (tx : Transaction) (o : FinalOutcome) (st : StationNo) :
    (k.settle tx o).station st = k.station st := by
  rw [Link.station, settle_stations, Link.station]

theorem losesStation_settle (s : State) (l : LinkNo) (tx : Transaction) (o : FinalOutcome) (st : StationNo)
    (eff : StationEffect) : (s.updLink l (fun k => k.settle tx o)).losesStation l st eff = s.losesStation l st eff := by
  simp only [State.losesStation, State.station, link_updLink_same, settle_station, settle_missLimit]

theorem losesStation_iff (s : State) (l : LinkNo) (st : StationNo) (eff : StationEffect) :
    s.losesStation l st eff = true ↔ eff = .silence ∧ (s.station l st).IsLost (s.link l).missLimit := by
  simp only [State.losesStation, StationRecord.lostBy, missUp, Bool.and_eq_true, Bool.or_eq_true, beq_iff_eq]
  exact and_congr_right fun _ => and_congr_right fun _ => decide_eq_true_iff

theorem applyTable_updLink (s : State) (l m : LinkNo) (g : Link → Link) (tx : Transaction) (o : FinalOutcome) :
    (s.updLink m g).applyTable l tx o = (s.applyTable l tx o).updLink m g := by
  cases tx with
  | poll | demandRead | write => exact entryEvent_updLink ..
  | probe => rfl
  | broadcast =>
    unfold State.applyTable
    simp only
    split
    · exact entryEvent_updLink ..
    · rfl

@[simp] theorem applyTable_link (s : State) (l m : LinkNo) (tx : Transaction) (o : FinalOutcome) :
    (s.applyTable l tx o).link m = s.link m := by
  cases tx with
  | poll | demandRead | write => exact entryEvent_link ..
  | probe => rfl
  | broadcast =>
    unfold State.applyTable
    simp only
    split
    · exact entryEvent_link ..
    · rfl

/-- A hold is no result at any entry (R117, R126). -/
theorem applyTable_heldOff (s : State) (l : LinkNo) (tx : Transaction) (q : BitVec 8) :
    s.applyTable l tx (.heldOff q) = s := by
  have hsame : ∀ key (f : Entry → Entry × List Reason), (∀ e, f e = (e, [])) → s.keyEvent key f = s := by
    intro key f hf
    rw [funext hf]
    exact (keyEvent_silent s key id).trans (by simp)
  cases tx with
  | poll | demandRead => exact hsame _ _ fun e => rfl
  | write => exact hsame _ _ fun e => by simp [Entry.onWriteCompletion]
  | probe => rfl
  | broadcast => rfl

theorem withRecord_self (k : Link) (st : StationNo) : k.withRecord st (k.station st) = k := by
  simp [Link.withRecord, Link.station]

/-! ## What a completion makes of a station record (R125, R126, R127) -/

/-- The column after an effect on a record that neither loses nor finds its station and meets no hold of the station's
own (R125 to R127). -/
def Link.recorded (k : Link) (st : StationNo) : StationEffect → Link
  | .none => k
  | .reply => k.withRecord st (k.station st).replied
  | .silence => k.withRecord st { k.station st with misses := min 15 ((k.station st).misses + 1) }
  | .hold q =>
    match (k.station st).standing with
    | .unseen | .present =>
      { k.withRecord st ⟨.held ⟨.station, some q.toNat⟩, 0, true⟩ with demand := k.demand.failedFor st }
    | .held h => k.withRecord st ⟨.held h, 0, true⟩
    | .missing => k.withRecord st ⟨.missing, 0, true⟩

theorem holdEffect_eq {s : State} {l : LinkNo} {st : StationNo} (q : BitVec 8)
    (h : ∀ n, (s.station l st).standing ≠ .held ⟨.station, n⟩) :
    s.holdEffect l st q = s.updLink l (fun k => k.recorded st (.hold q)) := by
  have hstation : (s.link l).station st = s.station l st := rfl
  unfold State.holdEffect
  simp only
  split
  next hstanding =>
    refine updLink_congr s l ?_
    simp only [Link.recorded, hstation, hstanding, enterHeld_eq]
  next hstanding =>
    refine updLink_congr s l ?_
    simp only [Link.recorded, hstation, hstanding, enterHeld_eq]
  next n hstanding =>
    refine updLink_congr s l ?_
    simp only [Link.recorded, hstation, hstanding]
    rfl
  next hstanding =>
    refine updLink_congr s l ?_
    simp only [Link.recorded, hstation, hstanding]
    rfl
  next n hstanding => exact absurd hstanding (h n)

/-- An effect on a station that is neither lost nor found is an update of its column. -/
theorem applyStation_eq {s : State} {l : LinkNo} {st : StationNo} {probe : Bool} {eff : StationEffect}
    (hkeep : s.losesStation l st eff = false)
    (hfind : probe = true → (s.station l st).standing = .missing → eff = .none ∨ eff = .silence)
    (hhold : ∀ q, eff = .hold q → ∀ n, (s.station l st).standing ≠ .held ⟨.station, n⟩) :
    s.applyStation l st probe eff = s.updLink l (fun k => k.recorded st eff) := by
  have hstation : (s.link l).station st = s.station l st := rfl
  have hprobed : eff ≠ .none → eff ≠ .silence → (probe && (s.station l st).isMissing) = false := by
    intro hnone hsilence
    rw [Bool.and_eq_false_iff, ← Bool.not_eq_true, ← Bool.not_eq_true, isMissing_iff, ← not_and_or]
    exact fun h => (hfind h.1 h.2).elim hnone hsilence
  unfold State.applyStation
  cases eff with
  | none =>
    simp [Link.recorded, State.updLink]
  | reply =>
    simp only [hprobed nofun nofun, Bool.false_eq_true, if_false]
    exact updLink_congr s l rfl
  | hold q =>
    simp only [hprobed nofun nofun, Bool.false_eq_true, if_false]
    exact holdEffect_eq q (hhold q rfl)
  | silence =>
    have hlost : (s.station l st).lostBy (s.link l).missLimit = false := by
      simpa [State.losesStation] using hkeep
    simp only [hlost, Bool.false_eq_true, if_false]
    exact updLink_congr s l rfl

/-- A completion that neither loses nor finds its station: one column update, one event at the table, and the last act. -/
theorem complete_eq {s : State} {l : LinkNo} {tx : Transaction} {o : FinalOutcome} {c : AttemptClass} {st : StationNo}
    (hst : tx.station? = some st) (hkeep : s.losesStation l st (stationEffect o c) = false)
    (hfind : tx.isProbe = true → (s.station l st).standing = .missing →
      stationEffect o c = .none ∨ stationEffect o c = .silence)
    (hhold : ∀ q, stationEffect o c = .hold q → ∀ n, (s.station l st).standing ≠ .held ⟨.station, n⟩) :
    s.complete l tx o c =
      ((s.updLink l (fun k => (k.settle tx o).recorded st (stationEffect o c))).applyTable l tx o).finished l := by
  have hstation : ((s.updLink l (fun k => k.settle tx o)).applyTable l tx o).station l st = s.station l st := by
    rw [State.station, applyTable_link, link_updLink_same, settle_station, State.station]
  have hlimit : (((s.updLink l (fun k => k.settle tx o)).applyTable l tx o).link l).missLimit = (s.link l).missLimit := by
    rw [applyTable_link, link_updLink_same, settle_missLimit]
  rw [State.complete, finished_eq, State.routeFree, hst]
  simp only [losesStation_settle, hkeep, Bool.false_eq_true, if_false, State.route, hst]
  rw [applyStation_eq (by rw [State.losesStation, hstation, hlimit]; exact hkeep) (by rwa [hstation])
    (by rwa [hstation]), applyTable_updLink, updLink_updLink, ← applyTable_updLink]

/-! ## Completions that neither hold, lose nor find their station (R115, R116) -/

/-- The record of a station after a class that neither holds, loses nor finds it (R125, R127). -/
def StationRecord.afterClass (r : StationRecord) : AttemptClass → StationRecord
  | .ack _ | .reject => r.replied
  | .silent => { r with misses := min 15 (r.misses + 1) }
  | .garbled | .contended | .hold _ | .sentWhole => r

/-- The class ends the transaction, and neither holds, loses nor finds the station. -/
structure State.EndsPlainly (s : State) (l : LinkNo) (st : StationNo) (tx : Transaction) (c : AttemptClass) : Prop where
  last : LastAttempt s l ∨ c.retried tx = false
  noHold : ∀ q, c ≠ .hold q
  run : c = .contended → (s.link l).blockedRun ≤ 3
  kept : c = .silent → ¬ (s.station l st).IsLost (s.link l).missLimit
  notFound : tx.isProbe = true → (s.station l st).standing = .missing → c = .silent ∨ c = .garbled ∨ c = .contended

theorem stationEffect_eq_silence {tx : Transaction} {c : AttemptClass}
    (h : stationEffect (c.outcome tx) c = .silence) : c = .silent := by
  cases c <;> cases hread : tx.isRead <;> simp [AttemptClass.outcome, stationEffect, hread] at h ⊢

theorem stationEffect_of_unanswered (tx : Transaction) {c : AttemptClass}
    (h : c = .silent ∨ c = .garbled ∨ c = .contended) :
    stationEffect (c.outcome tx) c = .none ∨ stationEffect (c.outcome tx) c = .silence := by
  obtain rfl | rfl | rfl := h <;> cases hread : tx.isRead <;> simp [AttemptClass.outcome, stationEffect, hread]

theorem recorded_outcome {k : Link} {st : StationNo} {tx : Transaction} {c : AttemptClass} (hhold : ∀ q, c ≠ .hold q) :
    k.recorded st (stationEffect (c.outcome tx) c) = k.withRecord st ((k.station st).afterClass c) := by
  cases c with
  | hold q => exact absurd rfl (hhold q)
  | ack v => cases hread : tx.isRead <;> simp [AttemptClass.outcome, stationEffect, hread] <;> rfl
  | silent => cases hread : tx.isRead <;> simp [AttemptClass.outcome, stationEffect, hread] <;> rfl
  | garbled =>
    cases hread : tx.isRead <;> simp [AttemptClass.outcome, stationEffect, hread] <;>
      exact (withRecord_self k st).symm
  | reject => rfl
  | contended | sentWhole => exact (withRecord_self k st).symm

/-- The end of an attempt that neither holds, loses nor finds its station. -/
theorem exec_attemptEnd_plain {s : State} {l : LinkNo} {st : StationNo} {tx : Transaction} {sld : List Bool}
    {c : AttemptClass} (h : Attempting s l tx sld c) (hst : tx.station? = some st) (hc : s.EndsPlainly l st tx c) :
    exec (.attemptEnd l sld) s =
      .next (((s.updLink l (fun k =>
        (k.settle tx (c.outcome tx)).withRecord st ((k.station st).afterClass c))).applyTable l tx
          (c.outcome tx)).finished l) := by
  have hkeep : s.losesStation l st (stationEffect (c.outcome tx) c) = false := by
    rw [← Bool.not_eq_true, losesStation_iff]
    exact fun hlost => hc.kept (stationEffect_eq_silence hlost.1) hlost.2
  rw [exec_attemptEnd_completes h hc.last,
    complete_eq hst hkeep (fun hprobe hmissing => stationEffect_of_unanswered tx (hc.notFound hprobe hmissing))
      fun q hq => absurd (stationEffect_outcome_hold hq) (hc.noHold q)]
  simp only [recorded_outcome hc.noHold, settle_station]

/-- Settles O41: the completion of a read as its column update and its event at the table. -/
theorem readCompletes : Obligations.ReadCompletes := by
  unfold Obligations.ReadCompletes
  intro s key tx sld c l r h htx hc record result change
  obtain ⟨hread, hst, hprobe⟩ : tx.isRead = true ∧ tx.station? = some key.station ∧ tx.isProbe = false := by
    obtain rfl | ⟨rfl, -⟩ := htx <;> exact ⟨rfl, rfl, rfl⟩
  have hplain : s.EndsPlainly l key.station tx c := by
    have hfound : tx.isProbe = true → (s.station l key.station).standing = .missing →
        c = .silent ∨ c = .garbled ∨ c = .contended := fun h => absurd h (by simp [hprobe])
    obtain ⟨v, rfl⟩ | rfl | ⟨hlast, rfl⟩ | ⟨hlast, rfl, hrun⟩ | ⟨hlast, rfl, hkept⟩ := hc
    · exact ⟨.inr rfl, nofun, nofun, nofun, hfound⟩
    · exact ⟨.inr rfl, nofun, nofun, nofun, hfound⟩
    · exact ⟨.inl hlast, nofun, nofun, nofun, hfound⟩
    · exact ⟨.inl hlast, nofun, fun _ => hrun, nofun, hfound⟩
    · exact ⟨.inl hlast, nofun, nofun, fun _ => hkept, hfound⟩
  have htable : ∀ t : State, t.applyTable l tx (c.outcome tx) = t.keyEvent key change := fun t => by
    have hevent : t.applyTable l tx (c.outcome tx) = t.keyEvent key (Entry.onReadResult (c.outcome tx)) := by
      obtain rfl | ⟨rfl, -⟩ := htx <;> rfl
    rw [hevent]
    congr 1
    funext e
    obtain ⟨v, rfl⟩ | rfl | ⟨-, rfl⟩ | ⟨-, rfl, -⟩ | ⟨-, rfl, -⟩ := hc <;>
      simp [AttemptClass.outcome, hread, Entry.onReadResult, change]
  have hdemand : (s.link l).demand.settled tx (c.outcome tx) =
      if tx = .poll key.station key.register then (s.link l).demand else .ready key result 16 := by
    obtain rfl | ⟨rfl, hslot⟩ := htx
    · exact (if_pos rfl).symm
    · rw [if_neg nofun, hslot]
      obtain ⟨v, rfl⟩ | rfl | ⟨-, rfl⟩ | ⟨-, rfl, -⟩ | ⟨-, rfl, -⟩ := hc <;> rfl
  rw [exec_attemptEnd_plain h hst hplain, htable]
  refine congrArg (fun u : State => Host.Outcome.next ((u.keyEvent key change).finished l)) (updLink_congr s l ?_)
  simp only [settle_read hread hplain.run, hdemand]
  rfl

/-- A write takes its record from the queue, may write the fault record, and leaves the demand slot (R142, R148). -/
theorem settle_write {k : Link} {st : StationNo} {reg : RegNo} {d : Value} {behind : List WriteRecord}
    {c : AttemptClass} (hqueue : k.queue = ⟨.station st, reg, d, true⟩ :: behind) (hhold : ∀ q, c ≠ .hold q)
    (hrun : c = .contended → k.blockedRun ≤ 3) :
    k.settle (.write st reg d) (c.outcome (.write st reg d)) =
      { k.freed (if c = .contended then k.blockedRun + 1 else 0) with
        queue := behind
        fault := k.fault.settled (.write st reg d) (c.outcome (.write st reg d))
        events := settledEvents (.write st reg d) (c.outcome (.write st reg d)) k.events } := by
  have hleft : settledQueue (.write st reg d) (c.outcome (.write st reg d)) k.queue = behind := by
    rw [hqueue]
    cases c with
    | hold q => exact absurd rfl (hhold q)
    | _ => rfl
  rw [settle_outcome _ hrun, hleft]
  rfl

/-- Settles O43: the completion of a write as its column update and its event at the table. -/
theorem writeCompletes : Obligations.WriteCompletes := by
  unfold Obligations.WriteCompletes
  intro s key d behind sld c l r h hqueue hc record outcome bad
  have hplain : s.EndsPlainly l key.station (.write key.station key.register d) c := by
    obtain ⟨v, rfl⟩ | rfl | rfl | ⟨rfl, hlast, hrun⟩ | ⟨rfl, hkept⟩ := hc
    · exact ⟨.inr rfl, nofun, nofun, nofun, nofun⟩
    · exact ⟨.inr rfl, nofun, nofun, nofun, nofun⟩
    · exact ⟨.inr rfl, nofun, nofun, nofun, nofun⟩
    · exact ⟨.inl hlast, nofun, fun _ => hrun, nofun, nofun⟩
    · exact ⟨.inr rfl, nofun, nofun, fun _ => hkept, nofun⟩
  have houtcome : c.outcome (.write key.station key.register d) = outcome := by
    obtain ⟨v, rfl⟩ | rfl | rfl | ⟨rfl, -⟩ | ⟨rfl, -⟩ := hc <;> rfl
  have hfault : (s.link l).fault.settled (.write key.station key.register d) outcome =
      (match bad with | none => (s.link l).fault | some o => ⟨.station key.station, key.register, d, o⟩) := by
    obtain ⟨v, rfl⟩ | rfl | rfl | ⟨rfl, -⟩ | ⟨rfl, -⟩ := hc <;> rfl
  have hevents : settledEvents (.write key.station key.register d) outcome (s.link l).events =
      if bad = none then (s.link l).events else (s.link l).events ||| 0x10#6 := by
    obtain ⟨v, rfl⟩ | rfl | rfl | ⟨rfl, -⟩ | ⟨rfl, -⟩ := hc <;> rfl
  rw [exec_attemptEnd_plain h rfl hplain, houtcome]
  refine congrArg (fun u : State => Host.Outcome.next ((u.keyEvent key (Entry.onWriteCompletion outcome)).finished l))
    (updLink_congr s l ?_)
  rw [← houtcome, settle_write hqueue hplain.noHold hplain.run, houtcome, hfault, hevents]
  rfl

/-! ## A HOLD reply (R117, R126, R143) -/

/-- The column of a transaction that a HOLD has answered, the station table apart. -/
def Link.heldOff (k : Link) (tx : Transaction) : Link :=
  { k.freed 0 with
    queue := if tx.isRead then k.queue else k.queue.map (fun w => { w with inFlight := false })
    demand := k.demand.settled tx (.heldOff 0#8) }

theorem settle_heldOff (k : Link) (tx : Transaction) (q : BitVec 8) : k.settle tx (.heldOff q) = k.heldOff tx := by
  have hfault : k.fault.settled tx (.heldOff q) = k.fault := by cases tx <;> rfl
  have hevents : settledEvents tx (.heldOff q) k.events = k.events := if_pos (Or.inr rfl)
  have hdemand : k.demand.settled tx (.heldOff q) = k.demand.settled tx (.heldOff 0#8) := by cases tx <;> rfl
  rw [settle_eq, hfault, hevents, hdemand]
  rfl

section
variable {s : State} {l : LinkNo} {st : StationNo} {tx : Transaction} {sld : List Bool} {q : BitVec 8}

/-- A HOLD reply to a transaction, where the station is neither found by it nor held by itself. -/
theorem exec_attemptEnd_hold (h : Attempting s l tx sld (.hold q)) (hst : tx.station? = some st)
    (hfound : tx.isProbe = true → (s.station l st).standing ≠ .missing)
    (hfree : ∀ n, (s.station l st).standing ≠ .held ⟨.station, n⟩) :
    exec (.attemptEnd l sld) s =
      .next ((s.updLink l (fun k => (k.heldOff tx).recorded st (.hold q))).finished l) := by
  rw [exec_attemptEnd_completes h (.inr rfl)]
  refine congrArg Host.Outcome.next ?_
  refine (complete_eq (o := .heldOff q) hst (by simp [State.losesStation, stationEffect])
    (fun hprobe hmissing => absurd hmissing (hfound hprobe)) fun _ _ => hfree).trans ?_
  simp only [applyTable_heldOff, settle_heldOff, stationEffect]

/-- A HOLD reply of a station that holds itself already: what remains is free (R126; notes/assumptions/5.md). -/
theorem exec_attemptEnd_holdAgain (h : Attempting s l tx sld (.hold q)) (hst : tx.station? = some st)
    {n : Option Nat} (hheld : (s.station l st).standing = .held ⟨.station, n⟩) :
    exec (.attemptEnd l sld) s =
      .next (({ s.updLink l (fun k => (k.heldOff tx).withRecord st
          ⟨.held ⟨.station, some ((Config.heldAgain s.choices).val + 1)⟩, 0, true⟩) with
        choices := s.choices + 1 } : State).finished l) := by
  rw [exec_attemptEnd_completes h (.inr rfl)]
  refine congrArg Host.Outcome.next ?_
  have hstation : (s.updLink l (fun k => k.settle tx (.heldOff q))).station l st = s.station l st := by
    rw [State.station, link_updLink_same, settle_station, State.station]
  have hkeep : (s.updLink l (fun k => k.settle tx (.heldOff q))).losesStation l st (.hold q) = false := by
    simp [State.losesStation]
  have hnot : (tx.isProbe && (s.station l st).isMissing) = false := by
    simp [StationRecord.isMissing, hheld]
  simp only [AttemptClass.outcome, State.complete, finished_eq, State.routeFree, hst, stationEffect, hkeep,
    Bool.false_eq_true, if_false, State.route, applyTable_heldOff, State.applyStation, hstation, hnot,
    State.holdEffect, hheld]
  refine congrArg (fun u : State => ({ u with choices := s.choices + 1 } : State).finished l)
    ((updLink_updLink s l _ _).trans (updLink_congr s l ?_))
  simp only [settle_heldOff]
  rfl

end

/-- The demand slot of a transaction a HOLD has answered (R156, R158). -/
theorem settled_heldOff {tx : Transaction} {key : Key} {d : DemandSlot}
    (htx : tx = .poll key.station key.register ∨ tx = .demandRead key.station key.register ∨
      ∃ v, tx = .write key.station key.register v)
    (hd : tx = .demandRead key.station key.register → d = .inFlight key) :
    d.settled tx (.heldOff 0#8) = if tx = .demandRead key.station key.register then .ready key none 16 else d := by
  obtain rfl | rfl | ⟨v, rfl⟩ := htx
  · rw [if_neg nofun]
    rfl
  · rw [if_pos rfl, hd rfl]
    rfl
  · rw [if_neg nofun]
    rfl

/-- Settles O44, by the standing of the record the HOLD meets. -/
theorem holdReplyHoldsTheStation : Obligations.HoldReplyHoldsTheStation := by
  unfold Obligations.HoldReplyHoldsTheStation
  intro s l st reg tx q sld h htx hdemand r rest
  obtain ⟨hst, hprobe⟩ : tx.station? = some st ∧ tx.isProbe = false := by
    obtain rfl | rfl | ⟨d, rfl⟩ := htx <;> exact ⟨rfl, rfl⟩
  have hfound : tx.isProbe = true → (s.station l st).standing ≠ .missing := fun h => absurd h (by simp [hprobe])
  have hslot := settled_heldOff (key := ⟨l, st, reg⟩) (d := (s.link l).demand) htx hdemand
  have hstation : ((s.link l).heldOff tx).station st = r := rfl
  refine ⟨fun hfree => ?_, fun n hhost => ?_, fun n hheld => ?_⟩
  · rw [exec_attemptEnd_hold h hst hfound (fun n hn => by
      obtain hfree | hfree := hfree <;> exact nomatch hfree.symm.trans hn)]
    refine congrArg (fun u : State => Host.Outcome.next (u.finished l)) (updLink_congr s l ?_)
    have hrecorded : ((s.link l).heldOff tx).recorded st (.hold q) =
        { ((s.link l).heldOff tx).withRecord st ⟨.held ⟨.station, some q.toNat⟩, 0, true⟩ with
          demand := ((s.link l).heldOff tx).demand.failedFor st } := by
      obtain hfree | hfree := hfree <;> simp only [Link.recorded, hstation, hfree]
    have hfailed : ((s.link l).heldOff tx).demand.failedFor st =
        if tx = .demandRead st reg then .ready ⟨l, st, reg⟩ none 16 else (s.link l).demand.failedFor st :=
      (congrArg (DemandSlot.failedFor · st) hslot).trans (by split <;> rfl)
    rw [hrecorded, hfailed]
    rfl
  · rw [exec_attemptEnd_hold h hst hfound (fun m hm => nomatch hhost.symm.trans hm)]
    refine congrArg (fun u : State => Host.Outcome.next (u.finished l)) (updLink_congr s l ?_)
    have hrecorded : ((s.link l).heldOff tx).recorded st (.hold q) =
        ((s.link l).heldOff tx).withRecord st ⟨.held ⟨.host, n⟩, 0, true⟩ := by
      simp only [Link.recorded, hstation, hhost]
    rw [hrecorded, Link.heldOff, hslot]
    rfl
  · have hrange := (Config.heldAgain s.choices).isLt
    refine ⟨(Config.heldAgain s.choices).val + 1, Nat.succ_pos _, hrange, ?_⟩
    rw [exec_attemptEnd_holdAgain h hst hheld]
    refine congrArg (fun u : State => Host.Outcome.next (({ u with choices := s.choices + 1 } : State).finished l))
      (updLink_congr s l ?_)
    simp only [Link.heldOff, hslot]
    rfl

/-! ## Broadcasts (R41, R118, R145) -/

/-- A SENT broadcast marks the VALID and SETTLING entries of its register, and lists nothing (R41). -/
theorem entryEvent_onSent (s : State) (l : LinkNo) (reg : RegNo) :
    s.entryEvent (fun e => e.key.link == l && e.key.register == reg) Entry.onSent =
      { s with table := s.table.map (fun e =>
          if e.key.link = l ∧ e.key.register = reg ∧ (e.state = .valid ∨ e.state = .settling) then
            { e with state := .doubtful }
          else e) } := by
  have hsilent : ∀ e : Entry, e.onSent.2 = [] := fun e => by
    unfold Entry.onSent
    split <;> rfl
  rw [entryEvent_silent s _ _ fun e _ _ => hsilent e]
  congr 1
  refine List.map_congr_left fun e _ => ?_
  simp only [Entry.onSent, Bool.and_eq_true, beq_iff_eq]
  by_cases hl : e.key.link = l <;> by_cases hreg : e.key.register = reg <;> cases hstate : e.state <;>
    simp [hl, hreg]

/-- Settles O45, by the class of the broadcast's attempt. -/
theorem broadcastCompletes : Obligations.BroadcastCompletes := by
  unfold Obligations.BroadcastCompletes
  intro s l reg d behind sld c h hqueue
  refine ⟨?_, ?_⟩
  · rintro rfl
    rw [exec_attemptEnd_completes h (.inr rfl), State.complete, finished_eq]
    have hrouted : ∀ u : State, u.routeFree l (.broadcast reg d) .sent .sentWhole = _ := fun u =>
      entryEvent_onSent u l reg
    refine congrArg Host.Outcome.next ((congrArg (State.finished · l) (hrouted _)).trans ?_)
    refine congrArg (fun u : State => ({ u with table := s.table.map (fun e =>
      if e.key.link = l ∧ e.key.register = reg ∧ (e.state = .valid ∨ e.state = .settling) then
        { e with state := .doubtful }
      else e) } : State).finished l) (updLink_congr s l ?_)
    rw [settle_outcome (c := .sentWhole) (.broadcast reg d) nofun, hqueue]
    rfl
  · rintro rfl hlast hrun
    have hrouted : ∀ u : State, u.routeFree l (.broadcast reg d) .blocked .contended = u := fun _ => rfl
    rw [exec_attemptEnd_completes h (.inl hlast), State.complete, finished_eq]
    refine congrArg (fun u : State => Host.Outcome.next (u.finished l)) ((hrouted _).trans (updLink_congr s l ?_))
    refine (settle_outcome (c := .contended) (.broadcast reg d) fun _ => hrun).trans ?_
    rw [hqueue]
    rfl

/-! ## Probes (R130) -/

/-- An answer to a probe of a MISSING station: the record, the event and the entries (R44, R130). -/
theorem findStation_eq (s : State) (l : LinkNo) (st : StationNo) (quanta : Option (BitVec 8)) :
    s.findStation l st quanta =
      (s.updLink l (fun k =>
        { k.withRecord st
            ⟨match quanta with | none => .present | some q => .held ⟨.station, some q.toNat⟩, 0, true⟩ with
          events := k.events ||| 0x02#6
          demand := match quanta with | none => k.demand | some _ => k.demand.failedFor st })).entryEvent
        (fun e => e.key.link == l && e.key.station == st)
        (fun e => if e.state = .orphaned then ({ e with state := .priming }, [.recovered]) else (e, [])) := by
  have hrevival : Entry.onRevival =
      fun e => if e.state = .orphaned then ({ e with state := .priming }, [.recovered]) else (e, []) := by
    funext e
    cases hstate : e.state <;> simp [Entry.onRevival, hstate]
  rw [← hrevival]
  refine congrArg (fun u : State => u.entryEvent (Entry.ofStation l st) Entry.onRevival) (updLink_congr s l ?_)
  cases quanta with
  | none => rfl
  | some q =>
    simp only [enterHeld_eq]
    rfl

section
variable {s : State} {l : LinkNo} {st : StationNo} {sld : List Bool} {c : AttemptClass}

theorem settle_probe (k : Link) (st : StationNo) {c : AttemptClass} (hrun : c = .contended → k.blockedRun ≤ 3) :
    k.settle (.probe st) (c.outcome (.probe st)) = k.freed (if c = .contended then k.blockedRun + 1 else 0) :=
  settle_read rfl hrun

/-- A probe that finds its station. -/
theorem exec_attemptEnd_found (h : Attempting s l (.probe st) sld c) {quanta : Option (BitVec 8)}
    (hmissing : (s.station l st).standing = .missing)
    (hc : quanta = none ∧ ((∃ v, c = .ack v) ∨ c = .reject) ∨ ∃ q, quanta = some q ∧ c = .hold q) :
    exec (.attemptEnd l sld) s =
      .next (((s.updLink l (fun k => k.freed 0)).findStation l st quanta).finished l) := by
  have hstation : (s.updLink l (fun k => k.settle (.probe st) (c.outcome (.probe st)))).station l st =
      s.station l st := by
    rw [State.station, link_updLink_same, settle_station, State.station]
  have hfound : (s.station l st).isMissing = true := (isMissing_iff _).mpr hmissing
  have hrouted : (s.updLink l (fun k => k.settle (.probe st) (c.outcome (.probe st)))).routeFree l (.probe st)
      (c.outcome (.probe st)) c = (s.updLink l (fun k => k.settle (.probe st) (c.outcome (.probe st)))).findStation l st
        quanta := by
    have heff : stationEffect (c.outcome (.probe st)) c = quanta.elim .reply .hold := by
      obtain ⟨rfl, ⟨v, rfl⟩ | rfl⟩ | ⟨q, rfl, rfl⟩ := hc <;> rfl
    cases quanta <;>
      simp [State.routeFree, heff, State.losesStation, State.route, State.applyStation, State.applyTable,
        Transaction.station?, Transaction.isProbe, hstation, hfound]
  have hplain : c ≠ .contended ∧ c.retried (.probe st) = false := by
    obtain ⟨-, ⟨v, rfl⟩ | rfl⟩ | ⟨q, -, rfl⟩ := hc <;> exact ⟨nofun, rfl⟩
  rw [exec_attemptEnd_completes h (.inr hplain.2), State.complete, finished_eq, hrouted]
  simp only [settle_probe _ st (fun hc => absurd hc hplain.1), if_neg hplain.1]

/-- A probe that neither finds nor loses its station and meets no HOLD. -/
theorem exec_attemptEnd_probe (h : Attempting s l (.probe st) sld c) (hc : s.EndsPlainly l st (.probe st) c) :
    exec (.attemptEnd l sld) s =
      .next ((s.updLink l (fun k =>
        (k.freed (if c = .contended then k.blockedRun + 1 else 0)).withRecord st
          ((k.station st).afterClass c))).finished l) := by
  have htable : ∀ u : State, u.applyTable l (.probe st) (c.outcome (.probe st)) = u := fun _ => rfl
  rw [exec_attemptEnd_plain h rfl hc, htable]
  refine congrArg (fun u : State => Host.Outcome.next (u.finished l)) (updLink_congr s l ?_)
  rw [settle_probe _ st hc.run]

end

/-! ## The loss of a station (R127, R128, R42, R43) -/

theorem lost_eq : Entry.onStationLost = Entry.lost := by
  funext e
  unfold Entry.onStationLost Entry.lost
  obtain h | h := Nat.eq_zero_or_pos e.pending
  · rw [if_pos h, if_neg (Nat.not_lt.mpr (Nat.le_of_eq h))]
  · rw [if_neg (Nat.ne_of_gt h), if_pos h]

/-- The column of a link that loses a station (R127, R128). -/
def Link.losing (k : Link) (st : StationNo) : Link :=
  { k.withRecord st { k.station st with standing := .missing, misses := min 15 ((k.station st).misses + 1) } with
    queue := k.queue.filter (fun w => w.dest != .station st)
    demand := k.demand.failedFor st
    events := k.events ||| 0x01#6 }

theorem loseStation_eq (s : State) (l : LinkNo) (st : StationNo) :
    s.loseStation l st =
      (s.updLink l (fun k => k.losing st)).entryEvent (fun e => e.key.link == l && e.key.station == st)
        Entry.lost := by
  rw [State.loseStation, lost_eq]
  refine congrArg (fun u : State => u.entryEvent (Entry.ofStation l st) Entry.lost) (updLink_congr s l ?_)
  rw [failDemand_frame, failDemand_demand]
  rfl

/-- A completion that loses its station, in the order the free value gives (R43; notes/assumptions/3.md). -/
theorem exec_attemptEnd_lost {s : State} {l : LinkNo} {st : StationNo} {tx : Transaction} {sld : List Bool}
    (h : Attempting s l tx sld .silent) (hst : tx.station? = some st) (hlast : LastAttempt s l ∨ tx.isRead = false)
    (hlost : (s.station l st).IsLost (s.link l).missLimit) :
    ∃ first : Bool, exec (.attemptEnd l sld) s =
      .next (({ (if first then
          ((s.updLink l (fun k => (k.settle tx (AttemptClass.silent.outcome tx)).losing st)).entryEvent
            (fun e => e.key.link == l && e.key.station == st) Entry.lost).applyTable l tx
              (AttemptClass.silent.outcome tx)
        else
          ((s.updLink l (fun k => (k.settle tx (AttemptClass.silent.outcome tx)).losing st)).applyTable l tx
            (AttemptClass.silent.outcome tx)).entryEvent (fun e => e.key.link == l && e.key.station == st)
              Entry.lost) with
        choices := s.choices + 1 } : State).finished l) := by
  have heff : stationEffect (AttemptClass.silent.outcome tx) .silent = .silence := by
    cases hread : tx.isRead <;> simp [AttemptClass.outcome, stationEffect, hread]
  have hby : ∀ u : State, u.link l = (s.link l).settle tx (AttemptClass.silent.outcome tx) →
      u.applyStation l st tx.isProbe .silence = u.loseStation l st := by
    intro u hu
    have hsilence : u.losesStation l st .silence = true := by
      rw [losesStation_iff, State.station, hu, settle_station, settle_missLimit]
      exact ⟨rfl, hlost⟩
    simp only [State.losesStation, beq_self_eq_true, Bool.true_and] at hsilence
    simp only [State.applyStation, hsilence, if_true]
  have hloses : (s.updLink l (fun k => k.settle tx (AttemptClass.silent.outcome tx))).losesStation l st .silence =
      true := by
    rw [losesStation_settle, losesStation_iff]
    exact ⟨rfl, hlost⟩
  refine ⟨Config.lossFirst s.choices, ?_⟩
  rw [exec_attemptEnd_completes h (hlast.imp id fun hread => hread), State.complete, finished_eq, State.routeFree, hst]
  simp only [heff, hloses, if_true, State.route, hst, updLink_choices]
  cases Config.lossFirst s.choices with
  | true =>
    simp only [if_true]
    rw [hby _ (link_updLink_same ..), loseStation_eq, updLink_updLink]
  | false =>
    simp only [Bool.false_eq_true, if_false]
    rw [hby _ (by rw [applyTable_link, link_updLink_same]), loseStation_eq, ← applyTable_updLink, updLink_updLink]

/-- Settles O46: both orders of R43, of which the free value takes one. -/
theorem stationIsLost : Obligations.StationIsLost := by
  unfold Obligations.StationIsLost
  intro s key tx sld l r h hlost htx fault column own ofStation outcomeFirst lossFirst
  have hst : tx.station? = some key.station := by
    obtain ⟨-, rfl⟩ | ⟨-, rfl, -⟩ | ⟨d, behind, rfl, -⟩ := htx <;> rfl
  have hlast : LastAttempt s l ∨ tx.isRead = false := by
    obtain ⟨hlast, -⟩ | ⟨hlast, -⟩ | ⟨d, behind, rfl, -⟩ := htx
    · exact .inl hlast
    · exact .inl hlast
    · exact .inr rfl
  have hcolumn : s.updLink l (fun k => (k.settle tx (AttemptClass.silent.outcome tx)).losing key.station) = column := by
    refine updLink_congr s l ?_
    obtain ⟨-, rfl⟩ | ⟨-, rfl, hslot⟩ | ⟨d, behind, rfl, hqueue⟩ := htx
    · exact congrArg (Link.losing · key.station) (settle_read (c := .silent) rfl nofun)
    · have hready : (s.link l).demand.settled (.demandRead key.station key.register) .lost = .ready key none 16 := by
        rw [hslot]
        rfl
      refine (congrArg (Link.losing · key.station) (settle_read (c := .silent) rfl nofun)).trans ?_
      simp only [AttemptClass.outcome, Transaction.isRead, if_true, hready]
      rfl
    · have hfilter : (s.link l).queue.filter (fun w => w.dest != .station key.station) =
          behind.filter (fun w => w.dest != .station key.station) := by
        rw [hqueue]
        exact List.filter_cons_of_neg (by simp)
      have hevents : settledEvents (.write key.station key.register d) .unknown (s.link l).events ||| 0x01#6 =
          (s.link l).events ||| 0x11#6 := BitVec.or_assoc (s.link l).events 0x10#6 0x01#6
      refine (congrArg (Link.losing · key.station) (settle_write (c := .silent) hqueue nofun nofun)).trans ?_
      simp only [Link.losing, AttemptClass.outcome, Transaction.isRead, Bool.false_eq_true, if_false, hevents, ← hfilter]
      rfl
  have happly : ∀ u : State, u.applyTable l tx (AttemptClass.silent.outcome tx) = u.keyEvent key own := by
    obtain ⟨-, rfl⟩ | ⟨-, rfl, -⟩ | ⟨d, behind, rfl, -⟩ := htx <;> exact fun _ => rfl
  obtain ⟨first, hends⟩ := exec_attemptEnd_lost h hst hlast hlost
  rw [hcolumn, happly, happly] at hends
  cases first with
  | true => exact .inr hends
  | false => exact .inl hends

/-- Settles O47, by the standing of the record the probe's outcome meets. -/
theorem probeCompletes : Obligations.ProbeCompletes := by
  unfold Obligations.ProbeCompletes
  intro s l st sld c h r ends ofStation revived record
  have hfound : ∀ quanta, r.standing = .missing →
      (quanta = none ∧ ((∃ v, c = .ack v) ∨ c = .reject) ∨ ∃ q, quanta = some q ∧ c = .hold q) →
      ends = .next ((revived (s.updLink l (fun k =>
        { (k.freed 0).withRecord st
            ⟨match quanta with | none => .present | some q => .held ⟨.station, some q.toNat⟩, 0, true⟩ with
          events := k.events ||| 0x02#6
          demand := match quanta with | none => k.demand | some _ => k.demand.failedFor st }))).finished l) := by
    intro quanta hmissing hc
    refine (exec_attemptEnd_found h hmissing hc).trans ?_
    rw [findStation_eq, updLink_updLink]
    rfl
  have hheldOff : ∀ k : Link, k.heldOff (.probe st) = k.freed 0 := fun _ => rfl
  refine ⟨fun hmissing hc => hfound none hmissing (.inl ⟨rfl, hc⟩), fun q hmissing hc =>
    hfound (some q) hmissing (.inr ⟨q, rfl, hc⟩), ?_, ?_, ?_, fun hmissing hc => ?_, fun q hfree => ?_,
    fun q n hhost => ?_, fun q n hheld => ?_, ?_⟩
  · rintro rfl hlast hkept
    exact exec_attemptEnd_probe h ⟨.inl hlast, nofun, nofun, fun _ => hkept, fun _ _ => .inl rfl⟩
  · rintro rfl hlast
    refine (exec_attemptEnd_probe h ⟨.inl hlast, nofun, nofun, nofun, fun _ _ => .inr (.inl rfl)⟩).trans ?_
    exact congrArg (fun u : State => Host.Outcome.next (u.finished l))
      (updLink_congr s l (withRecord_self ((s.link l).freed 0) st))
  · rintro rfl hlast hrun
    refine (exec_attemptEnd_probe h ⟨.inl hlast, nofun, fun _ => hrun, nofun, fun _ _ => .inr (.inr rfl)⟩).trans ?_
    exact congrArg (fun u : State => Host.Outcome.next (u.finished l))
      (updLink_congr s l (withRecord_self ((s.link l).freed ((s.link l).blockedRun + 1)) st))
  · have hreplied : c ≠ .contended ∧ r.afterClass c = r.replied ∧ s.EndsPlainly l st (.probe st) c := by
      obtain ⟨v, rfl⟩ | rfl := hc <;>
        exact ⟨nofun, rfl, .inr rfl, nofun, nofun, nofun, fun _ hm => absurd hm hmissing⟩
    obtain ⟨hcontended, hrecord, hplain⟩ := hreplied
    refine (exec_attemptEnd_probe h hplain).trans ?_
    refine congrArg (fun u : State => Host.Outcome.next (u.finished l)) (updLink_congr s l ?_)
    rw [if_neg hcontended, show ((s.link l).station st).afterClass c = r.replied from hrecord]
  · rintro rfl
    refine (exec_attemptEnd_hold h rfl (fun _ hm => ?_) fun n hn => ?_).trans ?_
    · obtain hfree | hfree := hfree <;> exact nomatch hfree.symm.trans hm
    · obtain hfree | hfree := hfree <;> exact nomatch hfree.symm.trans hn
    · refine congrArg (fun u : State => Host.Outcome.next (u.finished l)) (updLink_congr s l ?_)
      have hstation : ((s.link l).heldOff (.probe st)).station st = r := rfl
      obtain hfree | hfree := hfree <;> simp only [Link.recorded, hstation, hfree] <;> rfl
  · rintro rfl
    refine (exec_attemptEnd_hold h rfl (fun _ hm => nomatch hhost.symm.trans hm)
      fun m hm => nomatch hhost.symm.trans hm).trans ?_
    refine congrArg (fun u : State => Host.Outcome.next (u.finished l)) (updLink_congr s l ?_)
    have hstation : ((s.link l).heldOff (.probe st)).station st = r := rfl
    simp only [Link.recorded, hstation, hhost]
    rfl
  · rintro rfl
    have hrange := (Config.heldAgain s.choices).isLt
    refine ⟨(Config.heldAgain s.choices).val + 1, Nat.succ_pos _, hrange,
      (exec_attemptEnd_holdAgain h rfl hheld).trans ?_⟩
    simp only [hheldOff, record]
  · rintro rfl hlast hlost
    obtain ⟨first, hends⟩ := exec_attemptEnd_lost h rfl (.inl hlast) hlost
    have hcolumn : ∀ k : Link, k.settle (.probe st) (AttemptClass.silent.outcome (.probe st)) = k.freed 0 := fun k =>
      settle_probe k st (c := .silent) nofun
    have happly : ∀ u : State, u.applyTable l (.probe st) (AttemptClass.silent.outcome (.probe st)) = u := fun _ => rfl
    simp only [hcolumn, happly, ite_self] at hends
    exact hends

/-! ## Completions that halt (R92, R93, R104) -/

/-- A completion that halts its link enters HALTED on the routed state (R93, R104). -/
theorem finished_halts {s : State} {l : LinkNo} (h : (s.link l).blockedRun = 4 ∨ (s.link l).state = .stopping) :
    s.finished l =
      s.updLink l (fun k => k.halts (if (s.link l).blockedRun = 4 then .lineFault else .hostStop)) := by
  unfold State.finished
  by_cases hfourth : (s.link l).blockedRun = 4
  · simp only [hfourth, if_true]
  · simp only [hfourth, if_false, h.resolve_left hfourth, if_true]

theorem dropped_ne_waiting (d : DemandSlot) (key : Key) : d.dropped ≠ .waiting key := by
  cases d <;> exact nofun

/-- Settles O48: the halt comes upon a routed column that differs from the settled one in no field of the engine. -/
theorem completionsThatHalt : Obligations.CompletionsThatHalt := by
  unfold Obligations.CompletionsThatHalt
  intro s l tx sld c h hbroadcast hlast fourth hhalts
  have hends : LastAttempt s l ∨ c.retried tx = false := hlast.imp id fun ⟨hcontended, hread⟩ => by
    rw [← Bool.not_eq_true, retried_iff]
    rintro (hc | ⟨hr, hc⟩)
    · exact hcontended hc
    · exact hc.elim (hread hr).1 (hread hr).2
  have hrun : c = .contended → (s.link l).blockedRun ≤ 3 := fun _ => by
    obtain ⟨hfourth, -⟩ | ⟨-, -, hrun⟩ := hhalts
    · exact Nat.le_of_eq hfourth.2
    · exact hrun
  have hframe := (sameEngine_routeFree (s.updLink l (fun k => k.settle tx (c.outcome tx))) l tx (c.outcome tx) c).frame
  rw [link_updLink_same, settle_outcome tx hrun] at hframe
  generalize hu : (s.updLink l (fun k => k.settle tx (c.outcome tx))).routeFree l tx (c.outcome tx) c = u at hframe
  have hblocked : (u.link l).blockedRun = if c = .contended then (s.link l).blockedRun + 1 else 0 := by
    rw [hframe]
    rfl
  have hfour : (u.link l).blockedRun = 4 ↔ fourth := by
    rw [hblocked]
    by_cases hc : c = .contended
    · simp [fourth, hc]
    · simp [fourth, hc]
  have hhalting : (u.link l).blockedRun = 4 ∨ (u.link l).state = .stopping := by
    obtain ⟨hfourth, -⟩ | ⟨-, hstopping, -⟩ := hhalts
    · exact .inl (hfour.mpr hfourth)
    · right
      rw [hframe]
      exact hstopping
  refine ⟨u.finished l, ?_, ?_⟩
  · rw [exec_attemptEnd_completes h hends, State.complete, finished_eq, hu]
  · rw [finished_halts hhalting, link_updLink_same]
    refine ⟨rfl, ?_, ?_, ?_, rfl, ?_, dropped_ne_waiting _, ?_, ?_, fun hc => ?_, fun hc => ?_⟩
    · rw [← hfour]
      by_cases hcase : (u.link l).blockedRun = 4 <;> simp [Link.halts, hcase]
    · rw [← hfour]
      by_cases hcase : (u.link l).blockedRun = 4 <;> simp [Link.halts, hcase]
    · simp [Link.halts]
    · rw [hframe]
      rfl
    · rw [hframe]
      rfl
    · rw [hframe]
      rfl
    · exact hblocked.trans (if_pos hc)
    · exact hblocked.trans (if_neg hc)

end Sys2Proof.Machine
end

section
/-! PROOFS. The frames of the station link (06): what a request frame carries, and what the part reads of a reply. -/

namespace Sys2Proof.Machine

/-! ## Fields read from the levels (R107) -/

theorem getLsbD_foldl_sampled (sld : List Bool) (start w n j : Nat) :
    ((List.range n).foldl (fun (v : BitVec w) i => (v <<< 1) ||| (BitVec.ofBool (outside sld (start + i))).setWidth w)
      0#w).getLsbD j = (decide (j < n) && decide (j < w) && outside sld (start + (n - 1 - j))) := by
  induction n generalizing j with
  | zero => simp
  | succ n ih =>
    rw [List.range_succ, List.foldl_append, List.foldl_cons, List.foldl_nil, BitVec.getLsbD_or, BitVec.getLsbD_shiftLeft,
      ih]
    cases j with
    | zero => simp
    | succ j =>
      have hplace : n - 1 - j = n + 1 - 1 - (j + 1) := by omega
      by_cases hw : j + 1 < w
      · have hw' : j < w := by omega
        simp [hw, hw', hplace]
      · simp [hw]

theorem getMsbD_sampled (sld : List Bool) (start : Nat) {w i : Nat} (hi : i < w) :
    (sampled sld start w).getMsbD i = outside sld (start + i) := by
  have hplace : w - 1 - (w - 1 - i) = i := by omega
  rw [BitVec.getMsbD, sampled, getLsbD_foldl_sampled, hplace]
  simp [hi, show w - 1 - i < w by omega]

/-- A field is what stands in its bit times. -/
theorem sampled_eq {sld : List Bool} {start w : Nat} {v : BitVec w}
    (h : ∀ i, i < w → outside sld (start + i) = v.getMsbD i) : sampled sld start w = v :=
  BitVec.eq_of_getMsbD_eq fun i hi => (getMsbD_sampled sld start hi).trans (h i hi)

theorem sampled_congr {a b : List Bool} {x y w : Nat} (h : ∀ i, i < w → outside a (x + i) = outside b (y + i)) :
    sampled a x w = sampled b y w :=
  sampled_eq fun i hi => (h i hi).trans (getMsbD_sampled b y hi).symm

theorem outside_append_right (first rest : List Bool) (i : Nat) :
    outside (first ++ rest) (first.length + i) = outside rest i := by
  simp [outside, List.getElem?_append_right]

theorem sampled_after (first rest : List Bool) (start w : Nat) :
    sampled (first ++ rest) (first.length + start) w = sampled rest start w :=
  sampled_congr fun i _ => by rw [Nat.add_assoc, outside_append_right]

theorem outside_bitsOf {w i : Nat} (v : BitVec w) (rest : List Bool) (hi : i < w) :
    outside (bitsOf v ++ rest) i = v.getMsbD i := by
  have hlength : i < (bitsOf v).length := by simpa using hi
  rw [outside, List.getD_append _ _ _ _ hlength]
  simp [bitsOf, hi]

/-- A field put on the line is read back from its bit times. -/
theorem sampled_bitsOf {w : Nat} (v : BitVec w) (rest : List Bool) : sampled (bitsOf v ++ rest) 0 w = v :=
  sampled_eq fun i hi => by rw [Nat.zero_add, outside_bitsOf v rest hi]

theorem sampled_field {w start : Nat} {sld : List Bool} (before rest : List Bool) (v : BitVec w)
    (h : sld = before ++ (bitsOf v ++ rest)) (hstart : start = before.length) : sampled sld start w = v := by
  rw [h, hstart, ← Nat.add_zero before.length, sampled_after, sampled_bitsOf]

/-- As many bits as a field is wide are the bits of a field. -/
theorem bitsOf_sampled {w : Nat} {bits : List Bool} (h : bits.length = w) : bitsOf (sampled bits 0 w) = bits := by
  refine List.ext_getElem (by simp [h]) fun i hi hi' => ?_
  have hiw : i < w := h ▸ hi'
  simp [bitsOf, getMsbD_sampled bits 0 hiw, outside, hi']

theorem bitsOf_append {v w : Nat} (x : BitVec v) (y : BitVec w) : bitsOf (x ++ y) = bitsOf x ++ bitsOf y := by
  refine List.ext_getElem (by simp) fun i hi hi' => ?_
  rw [List.getElem_append]
  have hvw : i < v + w := by simpa using hi
  by_cases hiv : i < v
  · simp [bitsOf, BitVec.getMsbD_append, hiv]
  · simp [bitsOf, BitVec.getMsbD_append, hiv]

theorem hiByte_append_loByte (v : Value) : hiByte v ++ loByte v = v := by
  refine BitVec.eq_of_getLsbD_eq fun i hi => ?_
  rw [BitVec.getLsbD_append]
  by_cases h : i < 8
  · simp [h, loByte]
  · simp [h, hiByte, show i - 8 < 8 by omega, show 8 + (i - 8) = i by omega]

/-! ## Checks (R110) -/

theorem foldl_add_eq (items : List (BitVec 8)) (a : BitVec 8) : items.foldl (· + ·) a = a + sumBytes items := by
  induction items generalizing a with
  | nil => simp [sumBytes]
  | cons x xs ih => rw [sumBytes, List.foldl_cons, List.foldl_cons, ih, ih (0#8 + x), BitVec.zero_add, BitVec.add_assoc]

theorem sumBytes_append (items more : List (BitVec 8)) : sumBytes (items ++ more) = sumBytes items + sumBytes more := by
  rw [sumBytes, List.foldl_append, foldl_add_eq]
  rfl

/-- An item completes a sum of FFh exactly when it is the check of the others (R110). -/
theorem sumBytes_check_iff (items : List (BitVec 8)) (x : BitVec 8) :
    sumBytes (items ++ [x]) = 0xFF#8 ↔ x = 0xFF#8 - sumBytes items := by
  have hsingle : sumBytes [x] = x := BitVec.zero_add x
  rw [sumBytes_append, hsingle, BitVec.eq_sub_iff_add_eq, BitVec.add_comm]

theorem toNat_sumBytes (items : List (BitVec 8)) : (sumBytes items).toNat = (items.map BitVec.toNat).sum % 256 := by
  induction items with
  | nil => rfl
  | cons x xs ih =>
    have hcons : sumBytes (x :: xs) = x + sumBytes xs := by
      rw [sumBytes, List.foldl_cons, foldl_add_eq, BitVec.zero_add]
    rw [hcons, BitVec.toNat_add, ih, List.map_cons, List.sum_cons]
    omega

theorem sumBytes_eq_FF_iff (items : List (BitVec 8)) :
    sumBytes items = 0xFF#8 ↔ (items.map BitVec.toNat).sum % 256 = 255 := by
  rw [← toNat_sumBytes, ← BitVec.toNat_inj]
  rfl

/-! ## Request frames (R109, Tables 42 and 81) -/

/-- The bits every frame begins with: four lead bits and two start bits (R109). -/
def leadAndStart : List Bool := [true, true, true, true, false, false]

theorem frame_read {tx : Transaction} (h : tx.isRead = true) :
    tx.frame = leadAndStart ++
      (bitsOf tx.operation ++ (bitsOf tx.stationNumber ++ (bitsOf tx.register ++ (bitsOf tx.check ++ [])))) := by
  simp [Transaction.frame, h, leadAndStart]

theorem frame_write {tx : Transaction} (h : tx.isRead = false) :
    tx.frame = leadAndStart ++
      (bitsOf tx.operation ++ (bitsOf tx.stationNumber ++ (bitsOf tx.register ++ (bitsOf tx.data ++
        (bitsOf tx.check ++ []))))) := by
  simp [Transaction.frame, h, leadAndStart]

/-- The fields every request frame begins with (Table 42). -/
theorem frame_head (tx : Transaction) :
    ∃ rest, tx.frame =
      leadAndStart ++ (bitsOf tx.operation ++ (bitsOf tx.stationNumber ++ (bitsOf tx.register ++ rest))) := by
  cases h : tx.isRead with
  | true => exact ⟨_, frame_read h⟩
  | false => exact ⟨_, frame_write h⟩

/-- The fields of a request frame at their bit times (Table 42). -/
theorem sampled_frame (tx : Transaction) :
    tx.frame.take 6 = leadAndStart ∧ sampled tx.frame 6 2 = tx.operation ∧ sampled tx.frame 8 6 = tx.stationNumber ∧
      sampled tx.frame 14 8 = tx.register := by
  obtain ⟨rest, hframe⟩ := frame_head tx
  refine ⟨by rw [hframe]; rfl, sampled_field _ _ tx.operation hframe rfl, ?_, ?_⟩
  · exact sampled_field (leadAndStart ++ bitsOf tx.operation) (bitsOf tx.register ++ rest) _
      (by simp only [hframe, List.append_assoc]) (by simp [leadAndStart])
  · exact sampled_field (leadAndStart ++ bitsOf tx.operation ++ bitsOf tx.stationNumber) rest _
      (by simp only [hframe, List.append_assoc]) (by simp [leadAndStart])

theorem sampled_frame_write {tx : Transaction} (h : tx.isRead = false) :
    sampled tx.frame 22 16 = tx.data ∧ sampled tx.frame 38 8 = tx.check := by
  refine ⟨?_, ?_⟩
  · exact sampled_field
      (leadAndStart ++ bitsOf tx.operation ++ bitsOf tx.stationNumber ++ bitsOf tx.register) (bitsOf tx.check) _
      (by simp only [List.append_nil, frame_write h, List.append_assoc]) (by simp [leadAndStart])
  · exact sampled_field
      (leadAndStart ++ bitsOf tx.operation ++ bitsOf tx.stationNumber ++ bitsOf tx.register ++ bitsOf tx.data) [] _
      (by simp only [frame_write h, List.append_assoc]) (by simp [leadAndStart])

theorem sampled_frame_read {tx : Transaction} (h : tx.isRead = true) : sampled tx.frame 22 8 = tx.check :=
  sampled_field (leadAndStart ++ bitsOf tx.operation ++ bitsOf tx.stationNumber ++ bitsOf tx.register) [] _
    (by simp only [frame_read h, List.append_assoc]) (by simp [leadAndStart])

theorem stationNumber_of_station {tx : Transaction} {st : StationNo} (h : tx.station? = some st) :
    tx.stationNumber.toNat = st.val := by
  have hrange := st.isLt
  rw [Transaction.stationNumber, h]
  exact (BitVec.toNat_ofNat ..).trans (Nat.mod_eq_of_lt (by omega))

theorem sum_items_check (tx : Transaction) :
    (tx.operation.toNat + tx.stationNumber.toNat + tx.register.toNat + (hiByte tx.data).toNat + (loByte tx.data).toNat +
      tx.check.toNat) % 256 = 255 := by
  have hsum := (sumBytes_eq_FF_iff _).mp ((sumBytes_check_iff tx.items tx.check).mpr rfl)
  have hoperation : tx.operation.toNat % 256 = tx.operation.toNat := Nat.mod_eq_of_lt (by omega)
  have hstation : tx.stationNumber.toNat % 256 = tx.stationNumber.toNat := Nat.mod_eq_of_lt (by omega)
  simp only [Transaction.items, List.cons_append, List.nil_append, List.map_cons, List.map_nil, List.sum_cons,
    List.sum_nil, BitVec.toNat_setWidth, hoperation, hstation] at hsum
  omega

theorem slcToggling_iff (k : Link) : k.slcToggling = true ↔ k.line.Attempts := by
  unfold Link.slcToggling LineState.Attempts
  cases k.line.phase <;> simp

/-- Settles O50: the frame as its fields one after another, and the pins by the phase. -/
theorem requestFrameCarriesTheTransaction : Obligations.RequestFrameCarriesTheTransaction := by
  unfold Obligations.RequestFrameCarriesTheTransaction
  refine ⟨fun s l => slcToggling_iff _, fun s l h => ?_, fun s l tx i hphase hf hi hleft => ?_, ?_⟩
  · unfold State.sldDrivenLow Link.sldDrivenLow
    split
    next tx hphase hf => exact h.elim (absurd hphase) fun hnone => nomatch hnone.symm.trans hf
    next => rfl
  · have hplace : tx.frameBits - (s.link l).line.timer.left = i := by
      rw [← frame_length]
      omega
    simp only [State.sldDrivenLow, Link.sldDrivenLow, hphase, hf, hplace]
  · intro tx f
    obtain ⟨hlead, hoperation, hstation, hregister⟩ := sampled_frame tx
    refine ⟨frame_length tx, hlead, hoperation, fun st hst => ?_, fun hst => ?_, hregister, sampled_frame_write,
      sampled_frame_read, sum_items_check tx⟩
    · rw [hstation, stationNumber_of_station hst]
    · rw [hstation, Transaction.stationNumber, hst]

/-! ## Contention (R111) -/

theorem contentionBit_eq_none_iff (frame sld : List Bool) :
    contentionBit frame sld = none ↔
      ∀ i, i < frame.length → frame.getD i true = true → sld.getD i true = true := by
  rw [contentionBit, List.find?_eq_none]
  simp only [List.mem_range, Bool.and_eq_true, Bool.not_eq_true', outside, not_and, Bool.not_eq_false]

theorem contention_iff (frame sld : List Bool) :
    contention frame sld = true ↔ ∃ i, i < frame.length ∧ frame.getD i true = true ∧ sld.getD i true = false := by
  rw [contention, Option.isSome_iff_ne_none, Ne, contentionBit_eq_none_iff]
  push Not
  simp only [ne_eq, Bool.not_eq_true]

theorem replyClass_ne (isRead : Bool) (sld : List Bool) (at0 : Nat) :
    replyClass isRead sld at0 ≠ .contended ∧ replyClass isRead sld at0 ≠ .sentWhole := by
  unfold replyClass
  simp only
  split_ifs <;> exact ⟨nofun, nofun⟩

section
variable {tx : Transaction} {whole : Bool} {sld : List Bool}

theorem classify_of_unopposed (h : whole = true ∨ Unopposed tx sld) :
    classify tx whole sld =
      if tx.isBroadcast then .sentWhole else replyClass tx.isRead sld (tx.frame.length + 2) := by
  have hnone : (!whole && contention tx.frame sld) = false := by
    obtain rfl | hnone := h
    · rfl
    · rw [contention, (contentionBit_eq_none_iff _ _).mpr hnone]
      simp
  rw [classify, hnone, frame_length]
  rfl

theorem classify_eq_contended_iff :
    classify tx whole sld = .contended ↔
      whole = false ∧ ∃ i, i < tx.frame.length ∧ tx.frame.getD i true = true ∧ sld.getD i true = false := by
  rw [← contention_iff, classify]
  split
  next h => simpa using h
  next h =>
    refine ⟨fun hclass => ?_, fun hboth => absurd (by simp [hboth]) h⟩
    split at hclass
    · cases hclass
    · exact absurd hclass (replyClass_ne ..).1

end

/-! ## Replies (R112, R113, Tables 45 and 46) -/

theorem replyClass_congr (isRead : Bool) {a b : List Bool} {x y : Nat} (h : ∀ i, outside a (x + i) = outside b (y + i)) :
    replyClass isRead a x = replyClass isRead b y := by
  have hfield : ∀ start w, sampled a (x + start) w = sampled b (y + start) w := fun start w =>
    sampled_congr fun i _ => by rw [Nat.add_assoc, Nat.add_assoc, h]
  have hcode : sampled a x 3 = sampled b y 3 := hfield 0 3
  simp only [replyClass, hcode, Nat.add_assoc, hfield]

theorem replyClass_silent (isRead : Bool) {sld : List Bool} {at0 : Nat} (h : sampled sld at0 3 = 7#3) :
    replyClass isRead sld at0 = .silent := if_pos h

theorem replyClass_undefined (isRead : Bool) {sld : List Bool} {at0 : Nat}
    (h : sampled sld at0 3 ∉ [3#3, 5#3, 6#3, 7#3]) : replyClass isRead sld at0 = .garbled := by
  simp only [List.mem_cons, List.not_mem_nil, or_false, not_or] at h
  obtain ⟨hhold, hack, hreject, hsilent⟩ := h
  simp only [replyClass, hhold, hack, hreject, hsilent, if_false]

/-- The bits of a reply but for its check: the code, and the data or quanta where there are any (Table 81). -/
def Reply.body : Reply → List Bool
  | .ackRead v => bitsOf 5#3 ++ (bitsOf (hiByte v) ++ bitsOf (loByte v))
  | .ackWrite => bitsOf 5#3
  | .reject => bitsOf 6#3
  | .hold q => bitsOf 3#3 ++ bitsOf q

theorem reply_bits_eq (r : Reply) : r.bits = r.body ++ bitsOf r.check := by
  cases r with
  | ackRead v => rw [Reply.body, ← bitsOf_append, hiByte_append_loByte]; rfl
  | _ => rfl

/-- A reply with a byte in the place of its check reads as the reply exactly when the byte is the check (R110). -/
theorem replyClass_body {r : Reply} {tx : Transaction} (h : r.answers tx = true) (x : BitVec 8) :
    replyClass tx.isRead (r.body ++ bitsOf x) 0 = if x = r.check then r.attemptClass else .garbled := by
  have hsum := sumBytes_check_iff r.items x
  cases r with
  | ackRead v =>
    have hread : tx.isRead = true := (Bool.and_eq_true_iff.mp h).2
    have hcode : sampled (Reply.body (.ackRead v) ++ bitsOf x) 0 3 = 5#3 := sampled_field [] _ _ rfl rfl
    have hhigh : sampled (Reply.body (.ackRead v) ++ bitsOf x) 3 8 = hiByte v :=
      sampled_field (bitsOf 5#3) (bitsOf (loByte v) ++ bitsOf x) _ (by simp [Reply.body]) rfl
    have hlow : sampled (Reply.body (.ackRead v) ++ bitsOf x) 11 8 = loByte v :=
      sampled_field (bitsOf 5#3 ++ bitsOf (hiByte v)) (bitsOf x) _ (by simp [Reply.body]) (by simp)
    have hcheck : sampled (Reply.body (.ackRead v) ++ bitsOf x) 19 8 = x :=
      sampled_field (bitsOf 5#3 ++ bitsOf (hiByte v) ++ bitsOf (loByte v)) [] _ (by simp [Reply.body]) (by simp)
    simp only [replyClass, hcode, BitVec.reduceEq, if_false, if_true, hread, Nat.zero_add, Nat.add_zero,
      Nat.reduceAdd, hhigh, hlow, hcheck, hiByte_append_loByte]
    exact if_congr hsum rfl rfl
  | ackWrite =>
    have hread : tx.isRead = false := by simpa using (Bool.and_eq_true_iff.mp h).2
    have hcode : sampled (Reply.body .ackWrite ++ bitsOf x) 0 3 = 5#3 := sampled_field [] _ _ rfl rfl
    have hcheck : sampled (Reply.body .ackWrite ++ bitsOf x) 3 8 = x :=
      sampled_field (bitsOf 5#3) [] _ (by simp [Reply.body]) rfl
    simp only [replyClass, hcode, BitVec.reduceEq, Bool.false_eq_true, if_false, if_true, hread, Nat.zero_add,
      Nat.add_zero, hcheck]
    exact if_congr hsum rfl rfl
  | reject =>
    have hcode : sampled (Reply.body .reject ++ bitsOf x) 0 3 = 6#3 := sampled_field [] _ _ rfl rfl
    have hcheck : sampled (Reply.body .reject ++ bitsOf x) 3 8 = x :=
      sampled_field (bitsOf 6#3) [] _ (by simp [Reply.body]) rfl
    simp only [replyClass, hcode, BitVec.reduceEq, if_false, if_true, Nat.zero_add, Nat.add_zero, hcheck]
    exact if_congr hsum rfl rfl
  | hold q =>
    have hquanta : q ≠ 0#8 := by simpa using (Bool.and_eq_true_iff.mp h).2
    have hcode : sampled (Reply.body (.hold q) ++ bitsOf x) 0 3 = 3#3 := sampled_field [] _ _ rfl rfl
    have hquantaField : sampled (Reply.body (.hold q) ++ bitsOf x) 3 8 = q :=
      sampled_field (bitsOf 3#3) (bitsOf x) _ (by simp [Reply.body]) rfl
    have hcheck : sampled (Reply.body (.hold q) ++ bitsOf x) 11 8 = x :=
      sampled_field (bitsOf 3#3 ++ bitsOf q) [] _ (by simp [Reply.body]) (by simp)
    simp only [replyClass, hcode, BitVec.reduceEq, if_false, if_true, Nat.zero_add, Nat.add_zero, Nat.reduceAdd,
      hquantaField, hcheck]
    exact if_congr ((and_iff_left hquanta).trans hsum) rfl rfl

/-- What follows a request that goes out unopposed, or is known to have been sent whole, is read as a reply. -/
theorem classify_append {r : Reply} {tx : Transaction} {whole : Bool} {first : List Bool} (bits : List Bool)
    (h : r.answers tx = true) (hlength : first.length = tx.frame.length + 2) (hsent : whole = true ∨ Unopposed tx first) :
    classify tx whole (first ++ bits) = replyClass tx.isRead bits 0 := by
  have hunopposed : whole = true ∨ Unopposed tx (first ++ bits) := hsent.imp id fun hfirst i hi hreleased => by
    rw [List.getD_append _ _ _ _ (by omega)]
    exact hfirst i hi hreleased
  have hstation : tx.isBroadcast = false := by simpa using (Bool.and_eq_true_iff.mp h).1
  rw [classify_of_unopposed hunopposed, hstation, ← hlength]
  exact replyClass_congr tx.isRead fun i => by rw [outside_append_right, Nat.zero_add]

/-- The levels of a reply with its check replaced by other bits. -/
theorem classify_other_check {r : Reply} {tx : Transaction} {whole : Bool} {first : List Bool} {n : Nat}
    (h : r.answers tx = true) (hlength : first.length = tx.frame.length + 2) (hsent : whole = true ∨ Unopposed tx first)
    (hn : n < r.bits.length) (hlast : r.bits.length ≤ n + 8) :
    classify tx whole (first ++ r.bits.set n (!r.bits.getD n true)) = .garbled := by
  have hbits := reply_bits_eq r
  have htotal : r.bits.length = r.body.length + 8 := by rw [hbits]; simp
  have hset : r.bits.set n (!r.bits.getD n true) =
      r.body ++ (bitsOf r.check).set (n - r.body.length) (!r.bits.getD n true) := by
    rw [hbits, List.set_append_right _ _ (by omega)]
  have hfield := bitsOf_sampled (w := 8) (bits := (bitsOf r.check).set (n - r.body.length) (!r.bits.getD n true))
    (by simp)
  rw [classify_append _ h hlength hsent, hset, ← hfield, replyClass_body h, if_neg]
  intro hsame
  rw [hsame] at hfield
  have hplace : n - r.body.length < (bitsOf r.check).length := by
    rw [bitsOf_length]
    omega
  have hold : r.bits.getD n true = (bitsOf r.check)[n - r.body.length] := by
    rw [hbits, List.getD_append_right _ _ _ _ (by omega), List.getD_eq_getElem _ _ hplace]
  have hnew : (bitsOf r.check)[n - r.body.length] = !r.bits.getD n true := by
    conv_lhs => rw [List.getElem_of_eq hfield]
    exact List.getElem_set_self _
  rw [hold] at hnew
  exact absurd hnew.symm (Bool.not_ne_self _)

theorem getD_seen (n : LineState) (tx : Transaction) (sld : List Bool) (i : Nat) :
    (n.seen tx sld).getD i true =
      if tx.frame.length + 2 ≤ i ∧ i < tx.frame.length + 2 + n.reply.length then
        n.reply.getD (i - (tx.frame.length + 2)) true
      else sld.getD i true := by
  have hahead : tx.frameBits + Config.turnaroundBits = tx.frame.length + 2 := by
    rw [frame_length]
    rfl
  simp only [LineState.seen, hahead, List.append_assoc]
  generalize tx.frame.length + 2 = ahead
  by_cases hbefore : i < ahead
  · rw [List.getD_append _ _ _ _ (by simpa using hbefore), if_neg (by omega)]
    simp [hbefore, outside]
  · rw [List.getD_append_right _ _ _ _ (by simpa using hbefore)]
    simp only [List.length_map, List.length_range]
    by_cases hreply : i < ahead + n.reply.length
    · rw [if_pos ⟨by omega, hreply⟩, List.getD_append _ _ _ _ (by omega)]
    · rw [if_neg (by omega), List.getD_append_right _ _ _ _ (by omega)]
      have hplace : ahead + n.reply.length + (i - ahead - n.reply.length) = i := by omega
      simp [hplace]

/-- The class by the code and the sum of its bytes (Table 46). -/
theorem replyClass_sums (isRead : Bool) (sld : List Bool) (at0 : Nat) :
    let code := sampled sld at0 3
    let byte : Nat → BitVec 8 := fun i => sampled sld (at0 + 3 + 8 * i) 8
    let sum : Nat → Nat := fun n => (code.toNat + ((List.range n).map (fun i => (byte i).toNat)).sum) % 256
    (code = 5#3 → isRead = true →
      replyClass isRead sld at0 = if sum 3 = 255 then .ack (byte 0 ++ byte 1) else .garbled) ∧
    (code = 5#3 → isRead = false → replyClass isRead sld at0 = if sum 1 = 255 then .ack 0#16 else .garbled) ∧
    (code = 6#3 → replyClass isRead sld at0 = if sum 1 = 255 then .reject else .garbled) ∧
    (code = 3#3 →
      replyClass isRead sld at0 = if sum 2 = 255 ∧ byte 0 ≠ 0#8 then .hold (byte 0) else .garbled) := by
  intro code byte sum
  have hrange : List.range 3 = [0, 1, 2] ∧ List.range 2 = [0, 1] ∧ List.range 1 = [0] := ⟨rfl, rfl, rfl⟩
  obtain ⟨hthree, htwo, hone⟩ := hrange
  refine ⟨fun hcode hread => ?_, fun hcode hread => ?_, fun hcode => ?_, fun hcode => ?_⟩
  · have hsum := sumBytes_eq_FF_iff [5#8, byte 0, byte 1, byte 2]
    simp only [replyClass, show sampled sld at0 3 = 5#3 from hcode, BitVec.reduceEq, if_false, if_true, hread,
      sum, hcode, hthree]
    exact if_congr hsum rfl rfl
  · have hsum := sumBytes_eq_FF_iff [5#8, byte 0]
    simp only [replyClass, show sampled sld at0 3 = 5#3 from hcode, BitVec.reduceEq, Bool.false_eq_true, if_false,
      if_true, hread, sum, hcode, hone]
    exact if_congr hsum rfl rfl
  · have hsum := sumBytes_eq_FF_iff [6#8, byte 0]
    simp only [replyClass, show sampled sld at0 3 = 6#3 from hcode, BitVec.reduceEq, if_false, if_true, sum, hcode, hone]
    exact if_congr hsum rfl rfl
  · have hsum := sumBytes_eq_FF_iff [3#8, byte 0, byte 1]
    simp only [replyClass, show sampled sld at0 3 = 3#3 from hcode, BitVec.reduceEq, if_false, if_true, sum, hcode, htwo]
    exact if_congr (and_congr_left fun _ => hsum) rfl rfl

/-- Settles O51: the class of a window read as a code and its bytes. -/
theorem repliesAreReadBack : Obligations.RepliesAreReadBack := by
  unfold Obligations.RepliesAreReadBack
  refine ⟨fun r tx whole first h hlength hsent => ?_, fun tx whole sld hstation hsent hreleased => ?_,
    fun tx whole sld => classify_eq_contended_iff, fun tx whole sld hbroadcast hsent => ?_,
    fun tx whole sld hstation hsent hcode => ?_, fun tx whole sld hstation hsent => ?_,
    fun r tx whole first n h hlength hsent hn hlast => classify_other_check h hlength hsent hn hlast,
    fun tx sld other hsame => ?_, getD_seen⟩
  · rw [classify_append _ h hlength hsent, reply_bits_eq, replyClass_body h, if_pos rfl]
  · have hcode : sampled sld (tx.frame.length + 2) 3 = 7#3 := sampled_eq fun i hi => by
      rw [outside, hreleased _ (by omega) (by omega)]
      interval_cases i <;> rfl
    rw [classify_of_unopposed hsent, hstation]
    exact replyClass_silent tx.isRead hcode
  · rw [classify_of_unopposed hsent, hbroadcast]
    rfl
  · rw [classify_of_unopposed hsent, hstation]
    exact replyClass_undefined tx.isRead hcode
  · rw [classify_of_unopposed hsent, hstation]
    exact replyClass_sums tx.isRead sld (tx.frame.length + 2)
  · rw [classify_of_unopposed (.inl rfl), classify_of_unopposed (.inl rfl)]
    congr 1
    exact replyClass_congr tx.isRead fun i => hsame _ (Nat.le_add_right ..)

/-! ## Durations (R112, R121, Tables 45 and 53) -/

theorem windowBits_of_code (isRead : Bool) :
    windowBits isRead 5#3 = (if isRead then 27 else 11) ∧ windowBits isRead 6#3 = 11 ∧ windowBits isRead 3#3 = 19 ∧
    windowBits isRead 7#3 = 3 ∧
    ∀ code : BitVec 3, code ∉ [3#3, 5#3, 6#3, 7#3] → windowBits isRead code = if isRead then 27 else 19 := by
  refine ⟨by cases isRead <;> rfl, rfl, rfl, rfl, fun code hcode => ?_⟩
  simp only [List.mem_cons, List.not_mem_nil, or_false, not_or] at hcode
  obtain ⟨hhold, hack, hreject, hsilent⟩ := hcode
  cases isRead <;> simp [windowBits, bitsAfterCode, hhold, hack, hreject, hsilent, Config.codeBits]

theorem frame_length_eq (tx : Transaction) : tx.frame.length = if tx.isRead then 30 else 46 := frame_length tx

theorem attemptBits_of_unopposed {tx : Transaction} {sld : List Bool} (h : Unopposed tx sld) :
    attemptBits tx sld =
      if tx.isBroadcast then tx.frame.length
      else tx.frame.length + 2 + windowBits tx.isRead (sampled sld (tx.frame.length + 2) 3) := by
  rw [attemptBits, (contentionBit_eq_none_iff _ _).mpr h, frame_length]
  rfl

/-- A request contended first at a bit holds the line up to that bit (R111, Table 53). -/
theorem attemptBits_of_contended {tx : Transaction} {sld : List Bool} {i : Nat} (hi : i < tx.frame.length)
    (hreleased : tx.frame.getD i true = true) (hlow : sld.getD i true = false)
    (hbefore : ∀ j, j < i → tx.frame.getD j true = true → sld.getD j true = true) : attemptBits tx sld = i + 1 := by
  have hbit : contentionBit tx.frame sld = some i := by
    rw [contentionBit, List.find?_range_eq_some]
    refine ⟨by rw [hreleased, outside, hlow]; rfl, List.mem_range.mpr hi, fun j hj => ?_⟩
    cases hframe : tx.frame.getD j true with
    | false => rfl
    | true => rw [outside, hbefore j hj hframe]; rfl
  rw [attemptBits, hbit]

/-- An answered attempt holds the line for the frame, the turnaround and the bits of its reply (Table 53). -/
theorem attemptBits_of_answered {r : Reply} {tx : Transaction} {first : List Bool} (h : r.answers tx = true)
    (hlength : first.length = tx.frame.length + 2) (hsent : Unopposed tx first) :
    attemptBits tx (first ++ r.bits) = tx.frame.length + 2 + windowBits tx.isRead (sampled r.bits 0 3) := by
  have hunopposed : Unopposed tx (first ++ r.bits) := fun i hi hreleased => by
    rw [List.getD_append _ _ _ _ (by omega)]
    exact hsent i hi hreleased
  have hstation : tx.isBroadcast = false := by simpa using (Bool.and_eq_true_iff.mp h).1
  have hcode := sampled_after first r.bits 0 3
  rw [Nat.add_zero, hlength] at hcode
  rw [attemptBits_of_unopposed hunopposed, hstation, hcode]
  rfl

/-- Each reply holds the line for the bit times of Table 53. -/
theorem attemptBits_of_reply {r : Reply} {tx : Transaction} {first : List Bool} (h : r.answers tx = true)
    (hlength : first.length = tx.frame.length + 2) (hsent : Unopposed tx first) :
    attemptBits tx (first ++ r.bits) =
      match (generalizing := false) r with
      | .ackRead _ => 59
      | .ackWrite => 59
      | .reject => if tx.isRead then 43 else 59
      | .hold _ => if tx.isRead then 51 else 67 := by
  obtain ⟨hack, hreject, hhold, -, -⟩ := windowBits_of_code tx.isRead
  rw [attemptBits_of_answered h hlength hsent, frame_length_eq]
  cases r with
  | ackRead v =>
    have hread : tx.isRead = true := (Bool.and_eq_true_iff.mp h).2
    have hcode : sampled (Reply.bits (.ackRead v)) 0 3 = 5#3 :=
      sampled_field [] (bitsOf v ++ bitsOf (Reply.check (.ackRead v))) _ (by simp [Reply.bits]) rfl
    rw [hcode, hack, hread]
    rfl
  | ackWrite =>
    have hwrite : tx.isRead = false := by simpa using (Bool.and_eq_true_iff.mp h).2
    have hcode : sampled (Reply.bits .ackWrite) 0 3 = 5#3 := sampled_bitsOf 5#3 _
    rw [hcode, hack, hwrite]
    rfl
  | reject =>
    have hcode : sampled (Reply.bits .reject) 0 3 = 6#3 := sampled_bitsOf 6#3 _
    rw [hcode, hreject]
    cases tx.isRead <;> rfl
  | hold q =>
    have hcode : sampled (Reply.bits (.hold q)) 0 3 = 3#3 :=
      sampled_field [] (bitsOf q ++ bitsOf (Reply.check (.hold q))) _ (by simp [Reply.bits]) rfl
    rw [hcode, hhold]
    cases tx.isRead <;> rfl

/-- An attempt met by silence, or by a code that is none, holds the line for the bit times of Table 53. -/
theorem attemptBits_of_no_reply {tx : Transaction} {sld : List Bool} (hstation : tx.isBroadcast = false)
    (hsent : Unopposed tx sld) :
    (sampled sld (tx.frame.length + 2) 3 = 7#3 → attemptBits tx sld = if tx.isRead then 35 else 51) ∧
    (sampled sld (tx.frame.length + 2) 3 ∉ [3#3, 5#3, 6#3, 7#3] →
      attemptBits tx sld = if tx.isRead then 59 else 67) := by
  obtain ⟨-, -, -, hsilent, hundefined⟩ := windowBits_of_code tx.isRead
  have hbits : attemptBits tx sld =
      (if tx.isRead then 30 else 46) + 2 + windowBits tx.isRead (sampled sld (tx.frame.length + 2) 3) := by
    rw [attemptBits_of_unopposed hsent, hstation, ← frame_length_eq]
    rfl
  refine ⟨fun hcode => ?_, fun hcode => ?_⟩
  · rw [hbits, hcode, hsilent]
    cases tx.isRead <;> rfl
  · rw [hbits, hundefined _ hcode]
    cases tx.isRead <;> rfl

theorem attemptBits_of_broadcast {tx : Transaction} {sld : List Bool} (hbroadcast : tx.isBroadcast = true)
    (hsent : Unopposed tx sld) : attemptBits tx sld = 46 := by
  have hwrite : tx.isRead = false := by
    cases tx with
    | broadcast => rfl
    | _ => cases hbroadcast
  rw [attemptBits_of_unopposed hsent, hbroadcast, frame_length_eq, hwrite]
  rfl

end Sys2Proof.Machine
end

section
/-! PROOFS. The clock (00, 06): a timer by itself, one REFCLK period as a whole, and the periods that carry an attempt. -/

namespace Sys2Proof.Machine

/-! ## A timer by itself (R61, R70) -/

/-- A timer has exactly `n` REFCLK periods left. -/
def Timer.Remains (t : Timer) (period n : Nat) : Prop := t.sub < period ∧ t.left * period = n + t.sub

theorem remains_advance {t : Timer} {period n : Nat} (h : t.Remains period (n + 1)) :
    (t.advance period).Remains period n := by
  obtain ⟨hsub, hleft⟩ := h
  unfold Timer.advance
  split
  next hend =>
    have hunit : (t.left - 1) * period = n := by
      rw [Nat.sub_mul, hleft]
      omega
    exact ⟨Nat.zero_lt_of_lt hsub, hunit⟩
  next hmid =>
    have hnext : t.left * period = n + (t.sub + 1) := by omega
    exact ⟨Nat.not_le.mp hmid, hnext⟩

theorem last_of_remains {t : Timer} {period n : Nat} (h : t.Remains period (n + 1)) :
    t.last period = decide (n = 0) := by
  obtain ⟨hsub, hleft⟩ := h
  rw [Timer.last, ← Bool.decide_and]
  refine decide_eq_decide.mpr ⟨fun ⟨hone, hend⟩ => ?_, fun hzero => ?_⟩
  · have hmost : t.left * period ≤ 1 * period := Nat.mul_le_mul_right period hone
    omega
  · have hfew : t.left * period < 2 * period := by omega
    have hone : t.left < 2 := Nat.lt_of_mul_lt_mul_right hfew
    have hsome : t.left ≠ 0 := by
      rintro h
      rw [h] at hleft
      omega
    have hunit : t.left = 1 := by omega
    rw [hunit] at hleft
    exact ⟨Nat.le_of_eq hunit, by omega⟩

theorem remains_iterate {units period : Nat} (hperiod : 1 ≤ period) {k n : Nat} (h : k + n = units * period) :
    ((fun t : Timer => t.advance period)^[k] ⟨units, 0⟩).Remains period n := by
  induction k generalizing n with
  | zero => exact ⟨hperiod, h.symm.trans (Nat.zero_add n)⟩
  | succ k ih =>
    rw [Function.iterate_succ_apply']
    exact remains_advance (ih (by omega))

/-- Settles O3: after `k` periods the timer has the rest of its whole time left. -/
theorem timerRunsItsWholeTime : Obligations.TimerRunsItsWholeTime := by
  unfold Obligations.TimerRunsItsWholeTime
  intro units period k _ hperiod hk
  obtain ⟨n, hn⟩ : ∃ n, k + (n + 1) = units * period := ⟨units * period - k - 1, by omega⟩
  rw [last_of_remains (remains_iterate hperiod hn)]
  exact decide_eq_decide.mpr ⟨fun h => by omega, fun h => by omega⟩

/-! ## What ends in a REFCLK period -/

theorem lineTimed_iff (k : Link) : k.lineTimed = true ↔ k.line.rest ≠ .none ∨ k.line.Attempts := by
  rw [Link.lineTimed, Bool.or_eq_true, bne_iff_ne, underWay_iff]

theorem attemptBitEnds_iff (k : Link) :
    k.attemptBitEnds = true ↔ (k.line.rest = .none ∧ k.line.Attempts) ∧ k.divider ≤ k.line.timer.sub := by
  rw [Link.attemptBitEnds, Bool.and_eq_true, Bool.and_eq_true, beq_iff_eq, underWay_iff, decide_eq_true_eq,
    Link.bitPeriod, Nat.add_le_add_iff_right]

theorem contends_iff (k : Link) (level : Bool) :
    k.contends level = true ↔ k.line.rest = .none ∧ k.line.phase = .request ∧ k.divider ≤ k.line.timer.sub ∧
      k.sldDrivenLow = false ∧ level = false := by
  rw [Link.contends, Bool.and_eq_true, Bool.and_eq_true, Bool.and_eq_true, attemptBitEnds_iff, beq_iff_eq,
    Bool.not_eq_true', Bool.not_eq_true']
  constructor
  · rintro ⟨⟨⟨⟨⟨hrest, -⟩, hend⟩, hphase⟩, hdriven⟩, hlevel⟩
    exact ⟨hrest, hphase, hend, hdriven, hlevel⟩
  · rintro ⟨hrest, hphase, hend, hdriven, hlevel⟩
    exact ⟨⟨⟨⟨⟨hrest, .inl hphase⟩, hend⟩, hphase⟩, hdriven⟩, hlevel⟩

theorem contends_iff_contends (s : State) (l : LinkNo) : (s.link l).contends (s.level l) = true ↔ s.Contends l :=
  contends_iff (s.link l) (s.level l)

theorem due_line_iff (s : State) (l : LinkNo) :
    s.due (.line l) = true ↔
      (((s.link l).line.rest ≠ .none ∨ (s.link l).line.Attempts) ∧
        (s.link l).line.timer.last ((s.link l).divider + 1) = true) ∨ s.Contends l := by
  rw [State.due, Link.lineDue, Bool.or_eq_true, Bool.and_eq_true, lineTimed_iff, contends_iff_contends]
  rfl

theorem due_slot_iff (s : State) (l : LinkNo) :
    s.due (.slot l) = true ↔
      ∃ m : Timer, (s.link l).slotTimer = .running m ∧ m.last ((s.link l).divider + 1) = true := by
  simp only [State.due, Link.slotDue]
  cases hslot : (s.link l).slotTimer <;> simp [Link.bitPeriod]

theorem due_linger_iff (s : State) :
    s.due .linger = true ↔ ∃ m : Timer, s.lingerTimer = some m ∧ m.last 3200 = true := by
  unfold State.due
  cases s.lingerTimer with
  | none => simp
  | some t => simp [Config.lingerUnit]

/-! ## What the timers that go on do -/

theorem slotAdvance_running {k : Link} {m : Timer} (h : k.slotTimer = .running m) :
    k.slotAdvance.slotTimer =
      .running (if m.last (k.divider + 1) then m else m.advance (k.divider + 1)) := by
  have hdue : k.slotDue = m.last (k.divider + 1) := by rw [Link.slotDue, h]; rfl
  unfold Link.slotAdvance
  rw [h, hdue]
  cases hlast : m.last (k.divider + 1) with
  | true => exact h
  | false => rfl

theorem slotAdvance_of_not_running {k : Link} (h : ∀ m, k.slotTimer ≠ .running m) : k.slotAdvance = k := by
  unfold Link.slotAdvance
  split
  next t ht => exact absurd ht (h t)
  all_goals rfl

theorem slotTimer_lineAdvance (k : Link) (level : Bool) : (k.lineAdvance level).slotTimer = k.slotTimer := by
  rw [lineAdvance_frame]

theorem divider_lineAdvance (k : Link) (level : Bool) : (k.lineAdvance level).divider = k.divider := by
  rw [lineAdvance_frame]

/-- A line that waits for nothing, or whose phase ends, is left alone by the period. -/
theorem lineAdvance_of_still {k : Link} {level : Bool} (h : k.lineDue level = true ∨ k.lineTimed = false) :
    k.lineAdvance level = k := by
  refine if_neg ?_
  obtain h | h := h <;> simp [h]

/-- A line that goes on: its timer runs one period, and the level of a bit of the reply window that ends is gathered. -/
theorem line_lineAdvance {k : Link} {level : Bool} (hdue : k.lineDue level = false) (htimed : k.lineTimed = true) :
    (k.lineAdvance level).line =
      { k.line with
        timer := k.line.timer.advance (k.divider + 1)
        reply := if k.attemptBitEnds && k.line.phase == .reply then k.line.reply ++ [level] else k.line.reply } := by
  rw [Link.lineAdvance, hdue, htimed]
  rfl

theorem sld_advanceTimers (s : State) (l : LinkNo) :
    s.advanceTimers.sld[l] = if (s.link l).attemptBitEnds then s.sld[l].tail else s.sld[l] := by
  simp [State.advanceTimers]

theorem lingerTimer_advanceTimers (s : State) :
    s.advanceTimers.lingerTimer = s.lingerTimer.map (fun t => if t.last 3200 then t else t.advance 3200) := by
  unfold State.advanceTimers
  cases s.lingerTimer <;> rfl

/-- A link after a REFCLK period: its line and its slot timer are all that changes. -/
theorem link_advanceTimers_frame (s : State) (l : LinkNo) :
    s.advanceTimers.link l =
      { s.link l with
        line := ((s.link l).lineAdvance (s.level l)).line
        slotTimer := ((s.link l).lineAdvance (s.level l)).slotAdvance.slotTimer } := by
  rw [link_advanceTimers, slotAdvance_frame, lineAdvance_frame]

/-! ## What the ends of a REFCLK period do -/

/-- What the ends of other timers leave of a column for the end of its line: the rest, and where a transaction is in
flight the line as a whole. -/
def Link.KeepsLine (k j : Link) : Prop :=
  j.line.rest = k.line.rest ∧
    ∀ tx, k.inFlight = some tx → j.inFlight = some tx ∧ j.line = k.line ∧ j.divider = k.divider

theorem Link.KeepsLine.refl (k : Link) : k.KeepsLine k := ⟨rfl, fun _ h => ⟨h, rfl, rfl⟩⟩

theorem Link.KeepsLine.trans {k j i : Link} (h : k.KeepsLine j) (h' : j.KeepsLine i) : k.KeepsLine i := by
  refine ⟨h'.1.trans h.1, fun tx hf => ?_⟩
  obtain ⟨hf', hline, hdivider⟩ := h.2 tx hf
  obtain ⟨hf'', hline', hdivider'⟩ := h'.2 tx hf'
  exact ⟨hf'', hline'.trans hline, hdivider'.trans hdivider⟩

theorem issue_rest (n : LineState) (tx : Transaction) : (n.issue tx).rest = n.rest := by
  unfold LineState.issue
  cases hrest : n.rest with
  | none | gap | quiet => rfl

theorem start_keepsLine {k : Link} (hf : k.inFlight = none) (g : Group) (tx : Transaction) : k.KeepsLine (k.start g tx) :=
  ⟨issue_rest k.line tx, fun _ h => nomatch hf.symm.trans h⟩

theorem issue_keepsLine {s : State} {l : LinkNo} (hf : (s.link l).inFlight = none) (g : Group) :
    (s.link l).KeepsLine ((s.issue l g).link l) := by
  rw [State.issue, link_updLink_same]
  cases g with
  | write =>
    simp only [Link.issueWrite]
    split
    · exact .refl _
    · exact start_keepsLine (k := { s.link l with queue := _ }) hf .write _
  | demand =>
    simp only [Link.issueDemand]
    split
    · exact start_keepsLine (k := { s.link l with demand := _ }) hf .demand _
    all_goals exact .refl _
  | poll =>
    obtain hsame | ⟨i, rest, -, -, -, hissue⟩ := issuePoll_cases (s.link l) (s.passes l [])
    · simp only [hsame]
      exact .refl _
    · simp only [hissue]
      exact start_keepsLine (k := { s.link l with batch := rest }) hf .poll _

theorem arbitrate_keepsLine (s : State) (l : LinkNo) : (s.link l).KeepsLine ((s.arbitrate l).link l) := by
  obtain ⟨-, h⟩ | ⟨-, -, -, h⟩ | ⟨g, -, hf, -, -, h⟩ := arbitrate_cases s l
  · rw [h]
    exact .refl _
  · rw [h]
    exact .refl _
  · rw [h]
    exact issue_keepsLine hf g

theorem slotTick_keepsLine (s : State) (l : LinkNo) : (s.link l).KeepsLine ((s.slotTick l).link l) := by
  unfold State.slotTick
  split
  · refine Link.KeepsLine.trans ?_ (arbitrate_keepsLine ((s.tickOwners l).recapture l) l)
    have hcolumn : ((s.tickOwners l).recapture l).link l = (s.link l).afterTick (s.overrunItems l).length
        ((s.holdsCounted l).capture l ((s.link l).position + 1)) := by
      rw [recapture_tickOwners]
      exact (link_of_links rfl l).trans (link_updLink_same s l fun k =>
        k.afterTick (s.overrunItems l).length ((s.holdsCounted l).capture l (k.position + 1)))
    rw [hcolumn]
    exact ⟨rfl, fun _ h => ⟨h, rfl, rfl⟩⟩
  · exact .refl _

theorem lineEnds_acts (s : State) (l : LinkNo) (level : Bool) : LinkActs l s (s.lineEnds l level) := by
  unfold State.lineEnds
  simp only
  split
  next => exact restEnd_acts ..
  next => exact restEnd_acts ..
  next => exact .refl
  next =>
    split
    next =>
      split
      · exact attemptEnd_acts ..
      · split
        · exact attemptEnd_acts ..
        · exact requestSentWhole_acts ..
    next => exact LinkActs.column .refl _
    next =>
      split
      · exact LinkActs.column .refl _
      · exact attemptEnd_acts ..
    all_goals exact .refl

theorem lingerExpiry_link (s : State) (l : LinkNo) : s.lingerExpiry.link l = s.link l := by
  unfold State.lingerExpiry
  split <;> rfl

/-- The end of a timer leaves the end of another line to come as it was. -/
theorem fire_keepsLine (level : LinkNo → Bool) (s : State) {e : TimerId} {l : LinkNo} (h : e ≠ .line l) :
    (s.link l).KeepsLine ((s.fire level e).link l) := by
  have hother : ∀ {m : LinkNo} {t : State}, LinkActs m s t → m ≠ l → (s.link l).KeepsLine (t.link l) := fun hacts hm => by
    rw [hacts.link_ne hm.symm]
    exact .refl _
  cases e with
  | line m => exact hother (lineEnds_acts s m (level m)) fun hm => h (congrArg _ hm)
  | slot m =>
    rw [State.fire]
    split
    · by_cases hm : m = l
      · subst hm
        exact slotTick_keepsLine s m
      · exact hother (slotTick_acts s m) hm
    · exact .refl _
  | linger =>
    rw [State.fire]
    split
    · rw [lingerExpiry_link]
      exact .refl _
    · exact .refl _

/-- What a line does at the end of its phase is the effect of the row for it. -/
theorem lineEnds_endsAs {s u : State} {l : LinkNo} (h : (s.link l).KeepsLine (u.link l)) :
    EndsAs s (.line l) u (u.lineEnds l (s.level l)) := by
  obtain ⟨hrest, hkeeps⟩ := h
  refine ⟨fun hgap => ?_, fun hquiet => ?_, fun tx hnone hf => ?_⟩
  · have hends : u.lineEnds l (s.level l) = u.restEnd l .gap := by
      simp only [State.lineEnds, hrest, hgap]
    rw [hends]
    rfl
  · have hends : u.lineEnds l (s.level l) = u.restEnd l .quiet := by
      simp only [State.lineEnds, hrest, hquiet]
    rw [hends]
    rfl
  · obtain ⟨hf', hline, hdivider⟩ := hkeeps tx hf
    have hdriven : (u.link l).sldDrivenLow = (s.link l).sldDrivenLow := by
      simp only [Link.sldDrivenLow, hline, hf, hf']
    have hcontends : (u.link l).contends (s.level l) = true ↔ s.Contends l := by
      rw [← contends_iff_contends, contends_iff, contends_iff, hline, hdivider, hdriven]
    refine ⟨fun i hcontended hi hleft => ?_, fun hphase hnot hbroadcast => ?_, fun hphase hnot hstation => ?_,
      fun hphase => ?_, fun hphase => ⟨fun hmore => ?_, fun hwhole => ?_⟩⟩
    · have hplace : tx.frameBits - (s.link l).line.timer.left = i := by
        rw [← frame_length]
        omega
      have hends : u.lineEnds l (s.level l) = u.attemptEnd l (List.replicate i true ++ [false]) := by
        simp only [State.lineEnds, hline, hnone, hf', hcontended.2.1, hcontends.mpr hcontended, if_true, hplace]
      rw [hends]
      rfl
    · have hends : u.lineEnds l (s.level l) = u.attemptEnd l [] := by
        simp only [State.lineEnds, hline, hnone, hf', hphase, mt hcontends.mp hnot, Bool.false_eq_true, if_false,
          hbroadcast, if_true]
      rw [hends]
      rfl
    · have hends : u.lineEnds l (s.level l) = u.requestSentWhole l := by
        simp only [State.lineEnds, hline, hnone, hf', hphase, mt hcontends.mp hnot, Bool.false_eq_true, if_false,
          hstation]
      rw [hends]
      rfl
    · simp only [State.lineEnds, hline, hnone, hf', hphase]
      rfl
    · have hends : u.lineEnds l (s.level l) = u.updLink l (fun k => { k with
          line := k.line.lengthen ((s.link l).line.reply ++ [s.level l])
            (({ (s.link l).line with reply := (s.link l).line.reply ++ [s.level l] } : LineState).windowBits tx.isRead -
              ((s.link l).line.reply ++ [s.level l]).length) }) := by
        simp only [State.lineEnds, hline, hnone, hf', hphase]
        exact if_pos hmore
      rw [hends]
      rfl
    · have hends : u.lineEnds l (s.level l) =
          u.attemptEnd l (List.replicate (tx.frame.length + 2) true ++ ((s.link l).line.reply ++ [s.level l])) := by
        simp only [State.lineEnds, hline, hnone, hf', hphase]
        rw [frame_length]
        exact if_neg (Nat.not_lt.mpr hwhole)
      rw [hends]
      rfl

/-- The end of a timer takes the effect of the row for it. -/
theorem fire_endsAs {s u : State} (e : TimerId) (h : ∀ l, e = .line l → (s.link l).KeepsLine (u.link l)) :
    EndsAs s e u (u.fire s.level e) := by
  cases e with
  | line l => exact lineEnds_endsAs (h l rfl)
  | slot l =>
    simp only [EndsAs, State.fire]
    split <;> rfl
  | linger =>
    simp only [EndsAs, State.fire]
    split <;> rfl

/-- Ends of one period, one after another, each take the effect of the row for it. -/
theorem foldl_fire_endInTurn {s : State} (es : List TimerId) {u : State} (hnodup : es.Nodup)
    (h : ∀ l, TimerId.line l ∈ es → (s.link l).KeepsLine (u.link l)) :
    EndInTurn s es u (es.foldl (State.fire s.level) u) := by
  induction es generalizing u with
  | nil => rfl
  | cons e es ih =>
    obtain ⟨hnew, hnodup⟩ := List.nodup_cons.mp hnodup
    refine ⟨u.fire s.level e, fire_endsAs e fun l hl => h l (hl ▸ List.mem_cons_self), ih hnodup fun l hl => ?_⟩
    exact (h l (List.mem_cons_of_mem e hl)).trans (fire_keepsLine s.level u fun he => hnew (he ▸ hl))

theorem insertTimer_perm (rank : TimerId → Nat) (t : TimerId) (ts : List TimerId) :
    (insertTimer rank t ts).Perm (t :: ts) := by
  induction ts with
  | nil => exact .refl _
  | cons x xs ih =>
    unfold insertTimer
    split
    · exact .refl _
    · exact (ih.cons x).trans (.swap t x xs)

theorem foldr_insertTimer_perm (rank : TimerId → Nat) (ts : List TimerId) :
    (ts.foldr (insertTimer rank) []).Perm ts := by
  induction ts with
  | nil => exact .refl _
  | cons t ts ih => exact (insertTimer_perm rank t _).trans (ih.cons t)

/-- The line whose phase ends is as it was when its end takes effect. -/
theorem advanceTimers_keepsLine {s : State} {l : LinkNo} (h : s.due (.line l) = true) :
    (s.link l).KeepsLine (s.advanceTimers.link l) := by
  rw [link_advanceTimers_frame, lineAdvance_of_due _ _ h]
  exact ⟨rfl, fun _ hf => ⟨hf, rfl, rfl⟩⟩

theorem mem_dueTimers {s : State} {e : TimerId} (h : e ∈ TimerId.all.filter s.due) : s.due e = true :=
  (List.mem_filter.mp h).2

/-- Settles O2: which timers end, what the others do, and the ends in their turn. -/
theorem timeRaisesTheEventsOfTheRows : Obligations.TimeRaisesTheEventsOfTheRows := by
  unfold Obligations.TimeRaisesTheEventsOfTheRows
  intro s hq hr t attempts timed bitEnds
  have hstep : step s = .next s.clock := step_of_empty s hq
  have hlow : ¬ s.rstLow = true := by simp [hr]
  have hattemptEnds : ∀ l, (s.link l).attemptBitEnds = true ↔ attempts l ∧ bitEnds l := fun l => attemptBitEnds_iff _
  have htimed : ∀ l, (s.link l).lineTimed = true ↔ timed l := fun l => lineTimed_iff _
  refine ⟨fun hnone => ?_, due_line_iff s, due_slot_iff s, due_linger_iff s, ?_, fun e he => ?_, fun hmany => ?_⟩
  · rw [hstep, State.clock, if_neg hlow, hnone]
  · refine ⟨t.links, t.sld, t.lingerTimer, rfl, fun m hm => ?_, fun hnone => ?_, fun l => ?_⟩
    · rw [lingerTimer_advanceTimers, hm]
      rfl
    · rw [lingerTimer_advanceTimers, hnone]
      rfl
    · refine ⟨_, _, link_advanceTimers_frame s l, fun hstill => ?_, fun hdue hl => ?_, fun m hm => ?_, fun hm => ?_,
        fun ha hb => ?_, fun hnot => ?_⟩
      · rw [lineAdvance_of_still (hstill.imp id fun h => Bool.eq_false_iff.mpr (mt (htimed l).mp h))]
      · have hline := line_lineAdvance (level := s.level l) hdue ((htimed l).mpr hl)
        rw [hline]
        refine ⟨rfl, fun ha hb hphase => ?_, fun hnot => ?_⟩
        · have hends := (hattemptEnds l).mpr ⟨ha, hb⟩
          simp only [hends, hphase, beq_self_eq_true, Bool.and_self, if_true]
          rfl
        · refine if_neg fun hboth => hnot ?_
          obtain ⟨hends, hphase⟩ := Bool.and_eq_true_iff.mp hboth
          obtain ⟨ha, hb⟩ := (hattemptEnds l).mp hends
          exact ⟨ha, hb, eq_of_beq hphase⟩
      · have hslot := (slotTimer_lineAdvance (s.link l) (s.level l)).trans hm
        rw [slotAdvance_running hslot, divider_lineAdvance]
      · have hslot : ∀ m, ((s.link l).lineAdvance (s.level l)).slotTimer ≠ .running m := by
          rwa [slotTimer_lineAdvance]
        rw [slotAdvance_of_not_running hslot, slotTimer_lineAdvance]
      · rw [sld_advanceTimers, if_pos ((hattemptEnds l).mpr ⟨ha, hb⟩)]
      · rw [sld_advanceTimers, if_neg (mt (hattemptEnds l).mp hnot)]
  · refine ⟨t.fire s.level e, ?_, fire_endsAs e ?_⟩
    · rw [hstep, State.clock, if_neg hlow, he]
    · rintro l rfl
      exact advanceTimers_keepsLine (mem_dueTimers (by rw [he]; exact List.mem_singleton_self _))
  · have hperm := foldr_insertTimer_perm (fun e => Config.tieRank s.choices e.number) (TimerId.all.filter s.due)
    have hnodup : (TimerId.all.filter s.due).Nodup := List.Nodup.filter _ (by decide)
    refine ⟨_, _, hperm, ?_, foldl_fire_endInTurn _ (hperm.nodup_iff.mpr hnodup) fun l hl =>
      advanceTimers_keepsLine (mem_dueTimers (hperm.mem_iff.mp hl))⟩
    rw [hstep, State.clock, if_neg hlow]
    split
    next hnone => simp [hnone] at hmany
    next e hone => simp [hone] at hmany
    next => rfl

end Sys2Proof.Machine
end

section
/-! PROOFS. The clock carries an attempt (R121, Table 53): bit time by bit time through the request, the turnaround and the
reply window, while no other timer ends. -/

namespace Sys2Proof.Machine

/-! ## The periods in which only one line can end -/

theorem advance_of_end {t : Timer} {period : Nat} (h : period ≤ t.sub + 1) : t.advance period = ⟨t.left - 1, 0⟩ :=
  if_pos h

theorem advance_of_mid {t : Timer} {period : Nat} (h : t.sub + 1 < period) : t.advance period = ⟨t.left, t.sub + 1⟩ :=
  if_neg (Nat.not_le.mpr h)

theorem outlasts_advance {t : Timer} {period n : Nat} (h : t.Outlasts period (n + 1)) :
    t.last period = false ∧ (t.advance period).Outlasts period n := by
  have hlast : t.last period = false := by
    rw [Timer.last, ← Bool.decide_and, decide_eq_false_iff_not]
    rintro ⟨hone, hend⟩
    have hmost : t.left * period ≤ 1 * period := Nat.mul_le_mul_right period hone
    omega
  refine ⟨hlast, ?_⟩
  unfold Timer.advance
  split
  next hend =>
    have hunit : (t.left - 1) * period = t.left * period - period := by rw [Nat.sub_mul, Nat.one_mul]
    show n + 0 < (t.left - 1) * period
    omega
  next hmid =>
    show n + (t.sub + 1) < t.left * period
    omega

theorem left_pos_of_outlasts {t : Timer} {period n : Nat} (h : t.Outlasts period n) : 0 < t.left := by
  refine Nat.pos_of_ne_zero fun hzero => ?_
  rw [Timer.Outlasts, hzero, Nat.zero_mul] at h
  exact Nat.not_lt_zero _ h

/-- For `n` REFCLK periods no timer ends but the line of one link: every other one that runs has more time left, and no
other request is contended (R61, R70, R111). -/
structure State.Quiet (s : State) (l : LinkNo) (n : Nat) : Prop where
  linger : ∀ t, s.lingerTimer = some t → t.Outlasts 3200 n
  slots : ∀ m t, (s.link m).slotTimer = .running t → t.Outlasts ((s.link m).divider + 1) n
  lines : ∀ m, m ≠ l → (s.link m).line.rest ≠ .none ∨ (s.link m).line.Attempts →
    (s.link m).line.timer.Outlasts ((s.link m).divider + 1) n
  requests : ∀ m, m ≠ l → (s.link m).line.rest = .none → (s.link m).line.phase = .request →
    ∃ other : Transaction, (s.link m).inFlight = some other ∧
      ∀ i, i < (s.link m).line.timer.left →
        other.frame.getD (other.frame.length - ((s.link m).line.timer.left - i)) true = true →
        s.sld[m].getD i true = true

section
variable {s : State} {l : LinkNo} {n : Nat}

theorem State.Quiet.not_contends (h : s.Quiet l (n + 1)) {m : LinkNo} (hm : m ≠ l) : ¬ s.Contends m := by
  rintro ⟨hrest, hphase, -, hdriven, hlow⟩
  obtain ⟨other, hf, hreleased⟩ := h.requests m hm hrest hphase
  have hleft := left_pos_of_outlasts (h.lines m hm (.inr (.inl hphase)))
  have hbit : other.frame.getD (other.frame.length - (s.link m).line.timer.left) true = true := by
    rw [frame_length]
    simpa [State.sldDrivenLow, Link.sldDrivenLow, hphase, hf] using hdriven
  have hlevel := hreleased 0 hleft hbit
  rw [← List.headD_eq_getD, hlow] at hlevel
  cases hlevel

theorem State.Quiet.due_line (h : s.Quiet l (n + 1)) {m : LinkNo} (hm : m ≠ l) : s.due (.line m) = false := by
  rw [← Bool.not_eq_true, due_line_iff]
  rintro (⟨htimed, hlast⟩ | hcontends)
  · rw [(outlasts_advance (h.lines m hm htimed)).1] at hlast
    cases hlast
  · exact h.not_contends hm hcontends

theorem State.Quiet.due_slot (h : s.Quiet l (n + 1)) (m : LinkNo) : s.due (.slot m) = false := by
  rw [← Bool.not_eq_true, due_slot_iff]
  rintro ⟨t, ht, hlast⟩
  rw [(outlasts_advance (h.slots m t ht)).1] at hlast
  cases hlast

theorem State.Quiet.due_linger (h : s.Quiet l (n + 1)) : s.due .linger = false := by
  rw [← Bool.not_eq_true, due_linger_iff]
  rintro ⟨t, ht, hlast⟩
  rw [(outlasts_advance (h.linger t ht)).1] at hlast
  cases hlast

theorem State.Quiet.due_eq (h : s.Quiet l (n + 1)) (e : TimerId) :
    s.due e = (decide (e = .line l) && s.due (.line l)) := by
  cases e with
  | line m =>
    by_cases hm : m = l
    · simp [hm]
    · simp [hm, h.due_line hm]
  | slot m => simp [h.due_slot m]
  | linger => simp [h.due_linger]

/-- While the part is quiet, only the one line can end. -/
theorem State.Quiet.filter_due (h : s.Quiet l (n + 1)) :
    TimerId.all.filter s.due = if s.due (.line l) then [.line l] else [] := by
  have hone : ∀ m : LinkNo, TimerId.all.filter (fun e => decide (e = .line m)) = [.line m] := by decide
  rw [List.filter_congr fun e _ => h.due_eq e]
  cases s.due (.line l) with
  | true => simpa using hone l
  | false => simp

/-- The slot timer of a column after a period in which it does not end. -/
theorem State.Quiet.slots_advance (h : s.Quiet l (n + 1)) {m : LinkNo} {t : Timer}
    (ht : (s.advanceTimers.link m).slotTimer = .running t) : t.Outlasts ((s.link m).divider + 1) n := by
  have hcolumn : (s.advanceTimers.link m).slotTimer = ((s.link m).lineAdvance (s.level m)).slotAdvance.slotTimer := by
    rw [link_advanceTimers]
  rw [hcolumn] at ht
  by_cases hrun : ∃ u, (s.link m).slotTimer = .running u
  · obtain ⟨u, hu⟩ := hrun
    obtain ⟨hlast, hnext⟩ := outlasts_advance (h.slots m u hu)
    rw [slotAdvance_running ((slotTimer_lineAdvance _ _).trans hu), divider_lineAdvance, hlast] at ht
    exact SlotTimer.running.inj ht ▸ hnext
  · have hnot : ∀ u, ((s.link m).lineAdvance (s.level m)).slotTimer ≠ .running u := fun u hu =>
      hrun ⟨u, (slotTimer_lineAdvance _ _).symm.trans hu⟩
    rw [slotAdvance_of_not_running hnot] at ht
    exact absurd ht (hnot t)

/-- A line that goes on keeps its phase and its rest. -/
theorem line_advanceTimers {m : LinkNo} (hdue : s.due (.line m) = false) (htimed : (s.link m).lineTimed = true) :
    (s.advanceTimers.link m).line =
      { (s.link m).line with
        timer := (s.link m).line.timer.advance ((s.link m).divider + 1)
        reply := if (s.link m).attemptBitEnds && (s.link m).line.phase == .reply then
            (s.link m).line.reply ++ [s.level m]
          else (s.link m).line.reply } := by
  rw [link_advanceTimers_frame, ← line_lineAdvance hdue htimed]

theorem line_advanceTimers_of_still {m : LinkNo} (h : s.due (.line m) = true ∨ (s.link m).lineTimed = false) :
    (s.advanceTimers.link m).line = (s.link m).line := by
  rw [link_advanceTimers_frame, lineAdvance_of_still h]

theorem State.Quiet.advance (h : s.Quiet l (n + 1)) : s.advanceTimers.Quiet l n := by
  have hdivider : ∀ m, (s.advanceTimers.link m).divider = (s.link m).divider := fun m => by
    rw [link_advanceTimers_frame]
  have hflight : ∀ m, (s.advanceTimers.link m).inFlight = (s.link m).inFlight := fun m => by
    rw [link_advanceTimers_frame]
  refine ⟨fun t ht => ?_, fun m t ht => ?_, fun m hm htimed => ?_, fun m hm hrest hphase => ?_⟩
  · rw [lingerTimer_advanceTimers, Option.map_eq_some_iff] at ht
    obtain ⟨u, hu, rfl⟩ := ht
    obtain ⟨hlast, hnext⟩ := outlasts_advance (h.linger u hu)
    rw [hlast]
    exact hnext
  · rw [hdivider]
    exact h.slots_advance ht
  · rw [hdivider]
    cases hbefore : (s.link m).lineTimed with
    | true =>
      rw [line_advanceTimers (h.due_line hm) hbefore]
      exact (outlasts_advance (h.lines m hm ((lineTimed_iff _).mp hbefore))).2
    | false =>
      rw [line_advanceTimers_of_still (.inr hbefore)] at htimed
      exact absurd ((lineTimed_iff _).mpr htimed) (by simp [hbefore])
  · cases hbefore : (s.link m).lineTimed with
    | false =>
      rw [line_advanceTimers_of_still (.inr hbefore)] at hphase
      exact absurd ((lineTimed_iff _).mpr (.inr (.inl hphase))) (by simp [hbefore])
    | true =>
      have hline := line_advanceTimers (h.due_line hm) hbefore
      rw [hline] at hrest hphase
      obtain ⟨other, hf, hreleased⟩ := h.requests m hm hrest hphase
      refine ⟨other, (hflight m).trans hf, ?_⟩
      rw [hline, sld_advanceTimers]
      have hends := attemptBitEnds_iff (s.link m)
      by_cases hend : (s.link m).divider ≤ (s.link m).line.timer.sub
      · rw [if_pos (hends.mpr ⟨⟨hrest, .inl hphase⟩, hend⟩), advance_of_end (Nat.succ_le_succ hend)]
        intro i hi hbit
        have hplace : (s.link m).line.timer.left - 1 - i = (s.link m).line.timer.left - (i + 1) := by omega
        have hi' : i < (s.link m).line.timer.left - 1 := hi
        have hlevel := hreleased (i + 1) (by omega) (by rw [← hplace]; exact hbit)
        cases hsld : s.sld[m] with
        | nil => rfl
        | cons x xs =>
          rw [hsld, List.getD_cons_succ] at hlevel
          exact hlevel
      · rw [if_neg fun hbit => hend (hends.mp hbit).2, advance_of_mid (by omega)]
        exact hreleased

/-- A change of the one line leaves the part quiet. -/
theorem State.Quiet.updLine (h : s.Quiet l n) (f : Link → LineState) :
    (s.updLink l (fun k => { k with line := f k })).Quiet l n := by
  refine ⟨h.linger, fun m t ht => ?_, fun m hm htimed => ?_, fun m hm hrest hphase => ?_⟩
  · rw [link_updLink] at ht ⊢
    split at ht
    next hm =>
      subst hm
      rw [if_pos rfl]
      exact h.slots m t ht
    next hm =>
      rw [if_neg hm]
      exact h.slots m t ht
  · rw [link_updLink_ne s _ hm] at htimed ⊢
    exact h.lines m hm htimed
  · rw [link_updLink_ne s _ hm] at hrest hphase ⊢
    exact h.requests m hm hrest hphase

/-- A step while the part is quiet and the one line goes on. -/
theorem State.Quiet.step_of_not_due (h : s.Quiet l (n + 1)) (hq : s.pending = []) (hr : s.rstLow = false)
    (hdue : s.due (.line l) = false) : step s = .next s.advanceTimers :=
  (timeRaisesTheEventsOfTheRows s hq hr).1 (by rw [h.filter_due, hdue]; rfl)

/-- A step while the part is quiet and the phase of the one line ends. -/
theorem State.Quiet.step_of_due (h : s.Quiet l (n + 1)) (hq : s.pending = []) (hr : s.rstLow = false)
    (hdue : s.due (.line l) = true) : ∃ v, step s = .next v ∧ EndsAs s (.line l) s.advanceTimers v :=
  (timeRaisesTheEventsOfTheRows s hq hr).2.2.2.2.2.1 _ (by rw [h.filter_due, hdue]; rfl)

end

/-! ## One bit time of an attempt -/

/-- The part carries a transaction in the bit time `b` of its attempt, with the line as given and the stations leaving the
levels of the attempt. -/
structure State.Carries (s : State) (l : LinkNo) (tx : Transaction) (divider : Nat) (levels : List Bool) (b : Nat)
    (line : LineState) : Prop where
  pending : s.pending = []
  rstLow : s.rstLow = false
  inFlight : (s.link l).inFlight = some tx
  divider : (s.link l).divider = divider
  line : (s.link l).line = line
  sld : s.sld[l] = levels.drop b

section
variable {s : State} {l : LinkNo} {tx : Transaction} {divider : Nat} {levels : List Bool} {b : Nat} {line : LineState}

theorem State.Carries.level (h : s.Carries l tx divider levels b line) : s.sld[l].headD true = outside levels b := by
  rw [h.sld, outside, List.headD_eq_getD]
  simp

theorem State.Carries.timed (h : s.Carries l tx divider levels b line) (ha : line.Attempts) :
    (s.link l).lineTimed = true := by
  rw [lineTimed_iff, h.line]
  exact .inr ha

theorem State.Carries.bitEnds_iff (h : s.Carries l tx divider levels b line) (hrest : line.rest = .none)
    (ha : line.Attempts) : (s.link l).attemptBitEnds = true ↔ divider ≤ line.timer.sub := by
  rw [attemptBitEnds_iff, h.line, h.divider]
  exact and_iff_right ⟨hrest, ha⟩

/-- The request is contended in its bit time (R111). -/
theorem State.Carries.contends_iff (h : s.Carries l tx divider levels b line) (hrest : line.rest = .none) :
    s.Contends l ↔ line.phase = .request ∧ divider ≤ line.timer.sub ∧
      tx.frame.getD (tx.frame.length - line.timer.left) true = true ∧ outside levels b = false := by
  have hdriven : line.phase = .request →
      (s.sldDrivenLow l = false ↔ tx.frame.getD (tx.frame.length - line.timer.left) true = true) := fun hphase => by
    simp only [State.sldDrivenLow, Link.sldDrivenLow, h.line, hphase, h.inFlight, frame_length, Bool.not_eq_false']
  rw [State.Contends, h.line, h.divider, h.level]
  constructor
  · rintro ⟨-, hphase, hend, hreleased, hlow⟩
    exact ⟨hphase, hend, (hdriven hphase).mp hreleased, hlow⟩
  · rintro ⟨hphase, hend, hreleased, hlow⟩
    exact ⟨hrest, hphase, hend, (hdriven hphase).mpr hreleased, hlow⟩

theorem State.Carries.due_iff (h : s.Carries l tx divider levels b line) (ha : line.Attempts) :
    s.due (.line l) = true ↔ (line.timer.left ≤ 1 ∧ divider ≤ line.timer.sub) ∨ s.Contends l := by
  have htimed : (s.link l).line.rest ≠ .none ∨ (s.link l).line.Attempts := by
    rw [h.line]
    exact .inr ha
  rw [due_line_iff, h.divider, and_iff_right htimed, h.line, Timer.last, Bool.and_eq_true, decide_eq_true_eq,
    decide_eq_true_eq, Nat.add_le_add_iff_right]

theorem State.Carries.advance (h : s.Carries l tx divider levels b line) {c : Nat} {next : LineState}
    (hline : (s.advanceTimers.link l).line = next) (hsld : s.advanceTimers.sld[l] = levels.drop c) :
    s.advanceTimers.Carries l tx divider levels c next := by
  refine ⟨h.pending, h.rstLow, ?_, ?_, hline, hsld⟩
  · rw [link_advanceTimers_frame]
    exact h.inFlight
  · rw [link_advanceTimers_frame]
    exact h.divider

theorem State.Carries.sld_of_bitEnds (h : s.Carries l tx divider levels b line) (hrest : line.rest = .none)
    (ha : line.Attempts) (hend : divider ≤ line.timer.sub) : s.advanceTimers.sld[l] = levels.drop (b + 1) := by
  rw [sld_advanceTimers, if_pos ((h.bitEnds_iff hrest ha).mpr hend), h.sld, List.tail_drop]

/-- A REFCLK period inside a bit time. -/
theorem State.Carries.within (h : s.Carries l tx divider levels b line) (hrest : line.rest = .none)
    (ha : line.Attempts) (hsub : line.timer.sub < divider) :
    s.due (.line l) = false ∧
      s.advanceTimers.Carries l tx divider levels b { line with timer := ⟨line.timer.left, line.timer.sub + 1⟩ } := by
  have hmid : ¬ divider ≤ line.timer.sub := Nat.not_le.mpr hsub
  have hends : (s.link l).attemptBitEnds = false := by
    rw [← Bool.not_eq_true, h.bitEnds_iff hrest ha]
    exact hmid
  have hdue : s.due (.line l) = false := by
    rw [← Bool.not_eq_true, h.due_iff ha, h.contends_iff hrest]
    rintro (⟨-, hend⟩ | ⟨-, hend, -⟩) <;> exact hmid hend
  refine ⟨hdue, h.advance ?_ ?_⟩
  · rw [line_advanceTimers hdue (h.timed ha), hends, h.line, h.divider, advance_of_mid (Nat.succ_lt_succ hsub)]
    rfl
  · rw [sld_advanceTimers, if_neg (by simp [hends]), h.sld]

/-- The last REFCLK period of a bit time that ends no phase. -/
theorem State.Carries.goesOn (h : s.Carries l tx divider levels b line) (hrest : line.rest = .none)
    (ha : line.Attempts) (hend : line.timer.sub = divider) (hleft : 2 ≤ line.timer.left) (hnot : ¬ s.Contends l) :
    s.due (.line l) = false ∧
      s.advanceTimers.Carries l tx divider levels (b + 1) { line with
        timer := ⟨line.timer.left - 1, 0⟩
        reply := if line.phase = .reply then line.reply ++ [outside levels b] else line.reply } := by
  have hends := (h.bitEnds_iff hrest ha).mpr (Nat.le_of_eq hend.symm)
  have hdue : s.due (.line l) = false := by
    rw [← Bool.not_eq_true, h.due_iff ha]
    rintro (⟨hone, -⟩ | hcontends)
    · omega
    · exact hnot hcontends
  refine ⟨hdue, h.advance ?_ (h.sld_of_bitEnds hrest ha (Nat.le_of_eq hend.symm))⟩
  have hlevel : s.level l = outside levels b := h.level
  rw [line_advanceTimers hdue (h.timed ha), hends, h.line, h.divider, advance_of_end (by omega), hlevel]
  simp

/-- The last REFCLK period of a bit time that ends a phase: the line is as it was until the end takes effect. -/
theorem State.Carries.ends (h : s.Carries l tx divider levels b line) (hrest : line.rest = .none)
    (ha : line.Attempts) (hend : line.timer.sub = divider) (hlast : line.timer.left ≤ 1 ∨ s.Contends l) :
    s.due (.line l) = true ∧ s.advanceTimers.Carries l tx divider levels (b + 1) line := by
  have hsub := Nat.le_of_eq hend.symm
  have hdue : s.due (.line l) = true := (h.due_iff ha).mpr (hlast.imp (fun hone => ⟨hone, hsub⟩) id)
  refine ⟨hdue, h.advance ?_ (h.sld_of_bitEnds hrest ha hsub)⟩
  rw [line_advanceTimers_of_still (.inl hdue), h.line]

theorem State.Carries.updLine (h : s.Carries l tx divider levels b line) (f : Link → LineState) {next : LineState}
    (hnext : f (s.link l) = next) :
    (s.updLink l (fun k => { k with line := f k })).Carries l tx divider levels b next := by
  refine ⟨h.pending, h.rstLow, ?_, ?_, ?_, h.sld⟩
  · rw [link_updLink_same]
    exact h.inFlight
  · rw [link_updLink_same]
    exact h.divider
  · rw [link_updLink_same]
    exact hnext

end

/-! ## The line through an attempt -/

/-- The reply bits gathered in the first `j` bit times of the window. -/
def replyBits (tx : Transaction) (levels : List Bool) (j : Nat) : List Bool :=
  (List.range j).map (fun i => outside levels (tx.frame.length + 2 + i))

@[simp] theorem length_replyBits (tx : Transaction) (levels : List Bool) (j : Nat) :
    (replyBits tx levels j).length = j := by simp [replyBits]

theorem replyBits_succ (tx : Transaction) (levels : List Bool) (j : Nat) :
    replyBits tx levels (j + 1) = replyBits tx levels j ++ [outside levels (tx.frame.length + 2 + j)] := by
  simp [replyBits, List.range_succ]

theorem outside_replyBits (tx : Transaction) (levels : List Bool) {i j : Nat} (h : i < j) :
    outside (replyBits tx levels j) i = outside levels (tx.frame.length + 2 + i) := by
  simp [outside, replyBits, h]

/-- The bits of the window as far as they are known with `j` of them gathered (R112). -/
def knownWindow (tx : Transaction) (levels : List Bool) (j : Nat) : Nat :=
  if j < 3 then 3 else windowBits tx.isRead (sampled levels (tx.frame.length + 2) 3)

theorem windowBits_replyBits {tx : Transaction} {levels : List Bool} {j : Nat} :
    (if (replyBits tx levels j).length < 3 then 3 else windowBits tx.isRead (sampled (replyBits tx levels j) 0 3)) =
      knownWindow tx levels j := by
  rw [length_replyBits, knownWindow]
  split
  · rfl
  next hj =>
    rw [sampled_congr (b := levels) (y := tx.frame.length + 2) fun i hi => by
      rw [Nat.zero_add, outside_replyBits tx levels (by omega)]]

/-- The line in bit time `b` of an attempt, `sub` REFCLK periods into it. -/
def LineState.inAttempt (tx : Transaction) (attempt : Nat) (levels : List Bool) (b sub : Nat) : LineState :=
  if b < tx.frame.length then ⟨.request, attempt, false, [], .none, ⟨tx.frame.length - b, sub⟩⟩
  else if b < tx.frame.length + 2 then ⟨.turnaround, attempt, true, [], .none, ⟨tx.frame.length + 2 - b, sub⟩⟩
  else
    ⟨.reply, attempt, true, replyBits tx levels (b - (tx.frame.length + 2)), .none,
      ⟨knownWindow tx levels (b - (tx.frame.length + 2)) - (b - (tx.frame.length + 2)), sub⟩⟩

section
variable (tx : Transaction) (attempt : Nat) (levels : List Bool)

theorem inAttempt_request {b : Nat} (sub : Nat) (h : b < tx.frame.length) :
    LineState.inAttempt tx attempt levels b sub =
      ⟨.request, attempt, false, [], .none, ⟨tx.frame.length - b, sub⟩⟩ := if_pos h

theorem inAttempt_turnaround {b : Nat} (sub : Nat) (h : tx.frame.length ≤ b) (h' : b < tx.frame.length + 2) :
    LineState.inAttempt tx attempt levels b sub =
      ⟨.turnaround, attempt, true, [], .none, ⟨tx.frame.length + 2 - b, sub⟩⟩ := by
  rw [LineState.inAttempt, if_neg (by omega), if_pos h']

theorem inAttempt_reply (j sub : Nat) :
    LineState.inAttempt tx attempt levels (tx.frame.length + 2 + j) sub =
      ⟨.reply, attempt, true, replyBits tx levels j, .none, ⟨knownWindow tx levels j - j, sub⟩⟩ := by
  rw [LineState.inAttempt, if_neg (by omega), if_neg (by omega), Nat.add_sub_cancel_left]

theorem inAttempt_frame (b sub : Nat) :
    (LineState.inAttempt tx attempt levels b sub).rest = .none ∧
      (LineState.inAttempt tx attempt levels b sub).Attempts ∧
      (LineState.inAttempt tx attempt levels b sub).attempt = attempt ∧
      (LineState.inAttempt tx attempt levels b sub).timer.sub = sub ∧
      ∀ c, { LineState.inAttempt tx attempt levels b sub with
        timer := ⟨(LineState.inAttempt tx attempt levels b sub).timer.left, c⟩ } =
          LineState.inAttempt tx attempt levels b c := by
  unfold LineState.inAttempt LineState.Attempts
  split_ifs <;> simp

end

/-! ## How far an attempt goes -/

section
variable {tx : Transaction} {levels : List Bool} {b : Nat}

/-- A request whose attempt goes on past a bit time is not contended in it. -/
theorem released_of_lt_attemptBits (hb : b < tx.frame.length) (hgoes : b + 1 < attemptBits tx levels)
    (hreleased : tx.frame.getD b true = true) : outside levels b = true := by
  cases hbit : contentionBit tx.frame levels with
  | none => exact (contentionBit_eq_none_iff _ _).mp hbit b hb hreleased
  | some c =>
    have hbits : attemptBits tx levels = c + 1 := by rw [attemptBits, hbit]
    rw [contentionBit, List.find?_range_eq_some] at hbit
    have hbefore := hbit.2.2 b (by omega)
    rwa [hreleased, Bool.true_and, Bool.not_not] at hbefore

/-- An attempt that goes on past its request is one of a station, unopposed, and goes on through its window. -/
theorem unopposed_of_lt_attemptBits (hgoes : tx.frame.length < attemptBits tx levels) :
    Unopposed tx levels ∧ tx.isBroadcast = false ∧
      attemptBits tx levels =
        tx.frame.length + 2 + windowBits tx.isRead (sampled levels (tx.frame.length + 2) 3) := by
  have hunopposed : Unopposed tx levels := by
    refine (contentionBit_eq_none_iff _ _).mp (Option.eq_none_iff_forall_ne_some.mpr fun c hbit => ?_)
    have hbits : attemptBits tx levels = c + 1 := by rw [attemptBits, hbit]
    rw [contentionBit, List.find?_range_eq_some] at hbit
    have hrange := List.mem_range.mp hbit.2.1
    omega
  rw [attemptBits_of_unopposed hunopposed] at hgoes ⊢
  split at hgoes
  · exact absurd hgoes (Nat.lt_irrefl _)
  next hstation => exact ⟨hunopposed, Bool.eq_false_iff.mpr hstation, if_neg hstation⟩

/-- The request is contended at the last bit time, or the attempt is that of a broadcast or ends in its window. -/
theorem attemptBits_cases (tx : Transaction) (levels : List Bool) :
    (∃ c, c < tx.frame.length ∧ tx.frame.getD c true = true ∧ outside levels c = false ∧
        attemptBits tx levels = c + 1) ∨
      (Unopposed tx levels ∧ tx.isBroadcast = true ∧ attemptBits tx levels = tx.frame.length) ∨
      tx.frame.length < attemptBits tx levels := by
  cases hbit : contentionBit tx.frame levels with
  | some c =>
    have hbits : attemptBits tx levels = c + 1 := by rw [attemptBits, hbit]
    rw [contentionBit, List.find?_range_eq_some] at hbit
    obtain ⟨hlow, hrange, -⟩ := hbit
    rw [Bool.and_eq_true, Bool.not_eq_true'] at hlow
    exact .inl ⟨c, List.mem_range.mp hrange, hlow.1, hlow.2, hbits⟩
  | none =>
    have hunopposed : Unopposed tx levels := (contentionBit_eq_none_iff _ _).mp hbit
    have hbits := attemptBits_of_unopposed hunopposed
    cases hbroadcast : tx.isBroadcast with
    | true => exact .inr (.inl ⟨hunopposed, rfl, by rw [hbits, hbroadcast]; rfl⟩)
    | false =>
      rw [hbroadcast] at hbits
      simp only [Bool.false_eq_true, if_false] at hbits
      exact .inr (.inr (by omega))

end

/-! ## From bit time to bit time -/

theorem windowBits_ge (isRead : Bool) (code : BitVec 3) : 3 ≤ windowBits isRead code := Nat.le_add_right _ _

section
variable {s : State} {l : LinkNo} {tx : Transaction} {attempt divider n b : Nat} {levels : List Bool}

/-- The bit time passes and the line goes on in the attempt. -/
def State.PassesBit (s : State) (l : LinkNo) (tx : Transaction) (attempt divider n b : Nat) (levels : List Bool) :
    Prop :=
  ∃ v, step s = .next v ∧
    v.Carries l tx divider levels (b + 1) (.inAttempt tx attempt levels (b + 1) 0) ∧ v.Quiet l n

theorem passesBit_of_goesOn {line : LineState} (h : s.Carries l tx divider levels b line) (hq : s.Quiet l (n + 1))
    (hrest : line.rest = .none) (ha : line.Attempts) (hend : line.timer.sub = divider) (hleft : 2 ≤ line.timer.left)
    (hnot : ¬ s.Contends l)
    (hline : { line with
      timer := ⟨line.timer.left - 1, 0⟩
      reply := if line.phase = .reply then line.reply ++ [outside levels b] else line.reply } =
        LineState.inAttempt tx attempt levels (b + 1) 0) : s.PassesBit l tx attempt divider n b levels := by
  obtain ⟨hdue, hcarries⟩ := h.goesOn hrest ha hend hleft hnot
  exact ⟨_, hq.step_of_not_due h.pending h.rstLow hdue, hline ▸ hcarries, hq.advance⟩

/-- A phase ends with a change of the line alone, which `hends` reads off the row for it. -/
theorem passesBit_of_ends {line : LineState} (h : s.Carries l tx divider levels b line) (hq : s.Quiet l (n + 1))
    (hrest : line.rest = .none) (ha : line.Attempts) (hend : line.timer.sub = divider) (hleft : line.timer.left ≤ 1)
    (f : Link → LineState)
    (hends : ∀ v, EndsAs s (.line l) s.advanceTimers v →
      v = s.advanceTimers.updLink l (fun k => { k with line := f k }))
    (hline : f (s.advanceTimers.link l) = .inAttempt tx attempt levels (b + 1) 0) :
    s.PassesBit l tx attempt divider n b levels := by
  obtain ⟨hdue, hcarries⟩ := h.ends hrest ha hend (.inl hleft)
  obtain ⟨v, hstep, hend⟩ := hq.step_of_due h.pending h.rstLow hdue
  obtain rfl := hends v hend
  exact ⟨_, hstep, hcarries.updLine f hline, hq.advance.updLine f⟩

theorem not_contends_of_phase {line : LineState} (h : s.Carries l tx divider levels b line) (hrest : line.rest = .none)
    (hphase : line.phase ≠ .request) : ¬ s.Contends l := by
  rw [h.contends_iff hrest]
  exact fun hcontends => hphase hcontends.1

theorem not_contends_of_goes (h : s.Carries l tx divider levels b (.inAttempt tx attempt levels b divider))
    (hb : b < tx.frame.length) (hgoes : b + 1 < attemptBits tx levels) : ¬ s.Contends l := by
  rw [inAttempt_request tx attempt levels divider hb] at h
  rw [h.contends_iff rfl]
  rintro ⟨-, -, hreleased, hlow⟩
  have hplace : tx.frame.length - (tx.frame.length - b) = b := by omega
  rw [show (⟨tx.frame.length - b, divider⟩ : Timer).left = tx.frame.length - b from rfl, hplace] at hreleased
  rw [released_of_lt_attemptBits hb hgoes hreleased] at hlow
  cases hlow

theorem passesBit_request (h : s.Carries l tx divider levels b (.inAttempt tx attempt levels b divider))
    (hq : s.Quiet l (n + 1)) (hb : b + 1 < tx.frame.length) (hgoes : b + 1 < attemptBits tx levels) :
    s.PassesBit l tx attempt divider n b levels := by
  have hnot := not_contends_of_goes h (by omega) hgoes
  rw [inAttempt_request tx attempt levels divider (by omega)] at h
  refine passesBit_of_goesOn h hq rfl (.inl rfl) rfl (show 2 ≤ tx.frame.length - b by omega) hnot ?_
  rw [inAttempt_request tx attempt levels 0 hb, ← Nat.sub_sub]
  rfl

theorem passesBit_sentWhole (h : s.Carries l tx divider levels b (.inAttempt tx attempt levels b divider))
    (hq : s.Quiet l (n + 1)) (hb : b + 1 = tx.frame.length) (hgoes : b + 1 < attemptBits tx levels) :
    s.PassesBit l tx attempt divider n b levels := by
  have hnot := not_contends_of_goes h (by omega) hgoes
  obtain ⟨-, hstation, -⟩ := unopposed_of_lt_attemptBits (tx := tx) (levels := levels) (by omega)
  rw [inAttempt_request tx attempt levels divider (by omega)] at h
  have hleft : tx.frame.length - b ≤ 1 := by omega
  obtain ⟨-, hafter⟩ := h.ends rfl (.inl rfl) rfl (.inl hleft)
  refine passesBit_of_ends h hq rfl (.inl rfl) rfl hleft (fun k => k.line.sent) (fun v hends => ?_) ?_
  · have hrow := (hends.2.2 tx (by rw [h.line]) h.inFlight).2.2.1 (by rw [h.line]) hnot hstation
    refine (Host.Outcome.next.inj hrow).symm.trans ?_
    simp only [State.requestSentWhole, hafter.inFlight, hafter.line, hstation, and_self, if_true]
  · rw [hafter.line, hb, inAttempt_turnaround tx attempt levels 0 (Nat.le_refl _) (by omega), Nat.add_sub_cancel_left]
    rfl

theorem passesBit_turnaround (h : s.Carries l tx divider levels b (.inAttempt tx attempt levels b divider))
    (hq : s.Quiet l (n + 1)) (hb : b = tx.frame.length) : s.PassesBit l tx attempt divider n b levels := by
  rw [inAttempt_turnaround tx attempt levels divider (by omega) (by omega)] at h
  refine passesBit_of_goesOn h hq rfl (.inr (.inl rfl)) rfl (show 2 ≤ tx.frame.length + 2 - b by omega)
    (not_contends_of_phase h rfl nofun) ?_
  rw [inAttempt_turnaround tx attempt levels 0 (by omega) (by omega), ← Nat.sub_sub]
  rfl

theorem passesBit_openWindow (h : s.Carries l tx divider levels b (.inAttempt tx attempt levels b divider))
    (hq : s.Quiet l (n + 1)) (hb : b = tx.frame.length + 1) : s.PassesBit l tx attempt divider n b levels := by
  rw [inAttempt_turnaround tx attempt levels divider (by omega) (by omega)] at h
  have hleft : tx.frame.length + 2 - b ≤ 1 := by omega
  obtain ⟨-, hafter⟩ := h.ends rfl (.inr (.inl rfl)) rfl (.inl hleft)
  refine passesBit_of_ends h hq rfl (.inr (.inl rfl)) rfl hleft (fun k => k.line.openWindow) (fun v hends => ?_) ?_
  · exact (hends.2.2 tx (by rw [h.line]) h.inFlight).2.2.2.1 (by rw [h.line])
  · rw [hafter.line, hb, show tx.frame.length + 1 + 1 = tx.frame.length + 2 + 0 from rfl,
      inAttempt_reply tx attempt levels 0 0]
    rfl

theorem passesBit_reply {j : Nat}
    (h : s.Carries l tx divider levels (tx.frame.length + 2 + j)
      (.inAttempt tx attempt levels (tx.frame.length + 2 + j) divider))
    (hq : s.Quiet l (n + 1)) (hgoes : tx.frame.length + 2 + j + 1 < attemptBits tx levels) :
    s.PassesBit l tx attempt divider n (tx.frame.length + 2 + j) levels := by
  obtain ⟨-, -, hbits⟩ := unopposed_of_lt_attemptBits (tx := tx) (levels := levels) (by omega)
  have hwindow : j + 1 < windowBits tx.isRead (sampled levels (tx.frame.length + 2) 3) := by omega
  rw [inAttempt_reply] at h
  have hattempts : (⟨.reply, attempt, true, replyBits tx levels j, .none,
      ⟨knownWindow tx levels j - j, divider⟩⟩ : LineState).Attempts := .inr (.inr rfl)
  by_cases hcode : j = 2
  · subst hcode
    have hafter := (h.ends rfl hattempts rfl (.inl (Nat.le_refl 1))).2
    refine passesBit_of_ends h hq rfl hattempts rfl (Nat.le_refl 1)
      (fun k => k.line.lengthen (replyBits tx levels 3) (knownWindow tx levels 3 - 3)) (fun v hends => ?_) ?_
    · have hrow := ((hends.2.2 tx (by rw [h.line]) h.inFlight).2.2.2.2 (by rw [h.line])).1
      have hgathered : (s.link l).line.reply ++ [s.sld[l].headD true] = replyBits tx levels 3 := by
        rw [h.line, h.level, ← replyBits_succ]
      rw [hgathered, windowBits_replyBits, length_replyBits] at hrow
      exact hrow hwindow
    · rw [hafter.line, show tx.frame.length + 2 + 2 + 1 = tx.frame.length + 2 + 3 from rfl, inAttempt_reply]
      rfl
  · have hknown : knownWindow tx levels (j + 1) = knownWindow tx levels j := by
      unfold knownWindow
      split_ifs <;> omega
    have hleft : 2 ≤ knownWindow tx levels j - j := by
      unfold knownWindow
      split_ifs <;> omega
    refine passesBit_of_goesOn h hq rfl hattempts rfl hleft (not_contends_of_phase h rfl nofun) ?_
    rw [Nat.add_assoc (tx.frame.length + 2) j 1, inAttempt_reply, hknown, replyBits_succ, ← Nat.sub_sub]
    rfl

/-- A bit time that does not end the attempt. -/
theorem passesBit (h : s.Carries l tx divider levels b (.inAttempt tx attempt levels b divider))
    (hq : s.Quiet l (n + 1)) (hgoes : b + 1 < attemptBits tx levels) : s.PassesBit l tx attempt divider n b levels := by
  by_cases hrequest : b + 1 < tx.frame.length
  · exact passesBit_request h hq hrequest hgoes
  by_cases hwhole : b + 1 = tx.frame.length
  · exact passesBit_sentWhole h hq hwhole hgoes
  by_cases hturn : b = tx.frame.length
  · exact passesBit_turnaround h hq hturn
  by_cases hopen : b = tx.frame.length + 1
  · exact passesBit_openWindow h hq hopen
  · obtain ⟨j, rfl⟩ : ∃ j, b = tx.frame.length + 2 + j := ⟨b - (tx.frame.length + 2), by omega⟩
    exact passesBit_reply h hq hgoes

/-! ## The end of the attempt -/

/-- The last period ends the attempt with the class of the levels the stations left. -/
def State.EndsAttempt (s : State) (l : LinkNo) (tx : Transaction) (levels : List Bool) : Prop :=
  ∃ sld, step s = exec (.attemptEnd l sld) s.advanceTimers ∧
    Attempting s.advanceTimers l tx sld (classify tx false levels)

/-- The last period of the request ends the attempt: at contention, or a broadcast sent whole. -/
theorem endsAttempt_of_request (h : s.Carries l tx divider levels b (.inAttempt tx attempt levels b divider))
    (hq : s.Quiet l (n + 1)) (hb : b < tx.frame.length) {sld : List Bool}
    (hlast : tx.frame.length - b ≤ 1 ∨ s.Contends l)
    (hrow : ∀ v, EndsAs s (.line l) s.advanceTimers v → exec (.attemptEnd l sld) s.advanceTimers = .next v)
    (hclass : classify tx false sld = classify tx false levels) : s.EndsAttempt l tx levels := by
  rw [inAttempt_request tx attempt levels divider hb] at h
  obtain ⟨hdue, hafter⟩ := h.ends rfl (.inl rfl) rfl hlast
  obtain ⟨v, hstep, hends⟩ := hq.step_of_due h.pending h.rstLow hdue
  refine ⟨sld, hstep.trans (hrow v hends).symm, hafter.inFlight, ?_, ?_⟩
  · rw [hafter.line]
    exact .inl rfl
  · rw [hafter.line, classify_seen_of_no_reply _ _ _ _ rfl]
    exact hclass

theorem endsAttempt_contended (h : s.Carries l tx divider levels b (.inAttempt tx attempt levels b divider))
    (hq : s.Quiet l (n + 1)) (hb : b < tx.frame.length) (hreleased : tx.frame.getD b true = true)
    (hlow : outside levels b = false) : s.EndsAttempt l tx levels := by
  have hplace : tx.frame.length - (tx.frame.length - b) = b := by omega
  have hline := inAttempt_request tx attempt levels divider hb
  have hcontends : s.Contends l := by
    rw [hline] at h
    rw [h.contends_iff rfl]
    exact ⟨rfl, Nat.le_refl _, by rw [hplace]; exact hreleased, hlow⟩
  have hleft : (s.link l).line.timer.left + b = tx.frame.length := by
    rw [h.line, hline]
    exact Nat.sub_add_cancel (Nat.le_of_lt hb)
  refine endsAttempt_of_request (sld := List.replicate b true ++ [false]) h hq hb (.inr hcontends)
    (fun v hends => ?_) ?_
  · exact (hends.2.2 tx (by rw [h.line, hline]) h.inFlight).1 b hcontends hb hleft
  · have hbit : (List.replicate b true ++ [false]).getD b true = false := by simp
    rw [classify_eq_contended_iff.mpr ⟨rfl, b, hb, hreleased, hbit⟩,
      classify_eq_contended_iff.mpr ⟨rfl, b, hb, hreleased, hlow⟩]

theorem endsAttempt_broadcast (h : s.Carries l tx divider levels b (.inAttempt tx attempt levels b divider))
    (hq : s.Quiet l (n + 1)) (hb : b + 1 = tx.frame.length) (hbroadcast : tx.isBroadcast = true)
    (hunopposed : Unopposed tx levels) : s.EndsAttempt l tx levels := by
  have hline := inAttempt_request tx attempt levels divider (show b < tx.frame.length by omega)
  have hnot : ¬ s.Contends l := by
    rw [hline] at h
    rw [h.contends_iff rfl]
    rintro ⟨-, -, hreleased, hlow⟩
    have hplace : tx.frame.length - (tx.frame.length - b) = b := by omega
    rw [hplace] at hreleased
    exact nomatch hlow.symm.trans (hunopposed b (by omega) hreleased)
  refine endsAttempt_of_request (sld := []) h hq (by omega) (.inl (by omega)) (fun v hends => ?_) ?_
  · exact (hends.2.2 tx (by rw [h.line, hline]) h.inFlight).2.1 (by rw [h.line, hline]) hnot hbroadcast
  · rw [classify_of_unopposed (.inr hunopposed), classify_of_unopposed (.inr fun i _ _ => rfl), hbroadcast]
    rfl

/-- The class of a reply window depends on the bits of the window alone (Table 45). -/
theorem replyClass_window (isRead : Bool) {a c : List Bool} {x : Nat}
    (h : ∀ i, i < windowBits isRead (sampled c x 3) → outside a (x + i) = outside c (x + i)) :
    replyClass isRead a x = replyClass isRead c x := by
  have hcode : sampled a x 3 = sampled c x 3 :=
    sampled_congr fun i hi => h i (Nat.lt_of_lt_of_le hi (windowBits_ge ..))
  have hbyte : ∀ i, 3 + i + 8 ≤ windowBits isRead (sampled c x 3) → sampled a (x + 3 + i) 8 = sampled c (x + 3 + i) 8 :=
    fun i hi => sampled_congr fun j hj => by
      have hplace : x + 3 + i + j = x + (3 + i + j) := by omega
      rw [hplace]
      exact h _ (by omega)
  obtain ⟨hack, hreject, hhold, hsilent, hundefined⟩ := windowBits_of_code isRead
  simp only [replyClass, hcode]
  by_cases h7 : sampled c x 3 = 7#3
  · simp only [h7, if_true]
  by_cases h5 : sampled c x 3 = 5#3
  · rw [h5, hack] at hbyte
    cases isRead with
    | true => simp only [h5, hbyte 0 (by decide), hbyte 8 (by decide), hbyte 16 (by decide)]
    | false =>
      simp only [h5, BitVec.reduceEq, if_false, if_true, hbyte 0 (by decide), Bool.false_eq_true]
  by_cases h6 : sampled c x 3 = 6#3
  · rw [h6, hreject] at hbyte
    simp only [h6, BitVec.reduceEq, if_false, if_true, hbyte 0 (by decide)]
  by_cases h3 : sampled c x 3 = 3#3
  · rw [h3, hhold] at hbyte
    simp only [h3, BitVec.reduceEq, if_false, if_true, hbyte 0 (by decide), hbyte 8 (by decide)]
  · simp only [h7, h5, h6, h3, if_false]

/-- The levels an attempt has seen at the end of its window are those the stations left there. -/
theorem outside_seen_window (tx : Transaction) (attempt : Nat) (levels : List Bool) (timer : Timer) {j i : Nat}
    (hi : i < j + 1) :
    outside ((⟨.reply, attempt, true, replyBits tx levels j, .none, timer⟩ : LineState).seen tx
      (List.replicate (tx.frame.length + 2) true ++ replyBits tx levels (j + 1))) (tx.frame.length + 2 + i) =
        outside levels (tx.frame.length + 2 + i) := by
  rw [outside, getD_seen, length_replyBits]
  by_cases hgathered : i < j
  · rw [if_pos ⟨Nat.le_add_right .., by omega⟩, Nat.add_sub_cancel_left]
    exact outside_replyBits tx levels hgathered
  · have hpast := outside_append_right (List.replicate (tx.frame.length + 2) true) (replyBits tx levels (j + 1)) i
    rw [List.length_replicate] at hpast
    rw [if_neg (by omega)]
    exact hpast.trans (outside_replyBits tx levels hi)

theorem endsAttempt_window {j : Nat}
    (h : s.Carries l tx divider levels (tx.frame.length + 2 + j)
      (.inAttempt tx attempt levels (tx.frame.length + 2 + j) divider))
    (hq : s.Quiet l (n + 1)) (hlast : tx.frame.length + 2 + j + 1 = attemptBits tx levels) :
    s.EndsAttempt l tx levels := by
  obtain ⟨hunopposed, hstation, hbits⟩ := unopposed_of_lt_attemptBits (tx := tx) (levels := levels) (by omega)
  have hthree := windowBits_ge tx.isRead (sampled levels (tx.frame.length + 2) 3)
  have hwindow : windowBits tx.isRead (sampled levels (tx.frame.length + 2) 3) = j + 1 := by omega
  rw [inAttempt_reply] at h
  have hleft : knownWindow tx levels j - j ≤ 1 := by
    unfold knownWindow
    split_ifs <;> omega
  have hknown : knownWindow tx levels (j + 1) ≤ j + 1 := by
    unfold knownWindow
    split_ifs <;> omega
  obtain ⟨hdue, hafter⟩ := h.ends rfl (.inr (.inr rfl)) rfl (.inl hleft)
  obtain ⟨v, hstep, hends⟩ := hq.step_of_due h.pending h.rstLow hdue
  have hrow := ((hends.2.2 tx (by rw [h.line]) h.inFlight).2.2.2.2 (by rw [h.line])).2
  have hgathered : (s.link l).line.reply ++ [s.sld[l].headD true] = replyBits tx levels (j + 1) := by
    rw [h.line, h.level, ← replyBits_succ]
  rw [hgathered, windowBits_replyBits, length_replyBits] at hrow
  refine ⟨_, hstep.trans (hrow hknown).symm, hafter.inFlight, ?_, ?_⟩
  · rw [hafter.line]
    exact .inr (.inr rfl)
  · rw [hafter.line, classify_of_unopposed (.inl rfl), classify_of_unopposed (.inr hunopposed), hstation]
    refine replyClass_window tx.isRead fun i hi => ?_
    rw [hwindow] at hi
    exact outside_seen_window tx attempt levels _ hi

/-- The last period of an attempt. -/
theorem endsAttempt (h : s.Carries l tx divider levels b (.inAttempt tx attempt levels b divider))
    (hq : s.Quiet l (n + 1)) (hlast : b + 1 = attemptBits tx levels) : s.EndsAttempt l tx levels := by
  obtain ⟨c, hc, hreleased, hlow, hbits⟩ | ⟨hunopposed, hbroadcast, hbits⟩ | hgoes := attemptBits_cases tx levels
  · obtain rfl : b = c := by omega
    exact endsAttempt_contended h hq hc hreleased hlow
  · exact endsAttempt_broadcast h hq (by omega) hbroadcast hunopposed
  · obtain ⟨-, -, hbits⟩ := unopposed_of_lt_attemptBits hgoes
    have hthree := windowBits_ge tx.isRead (sampled levels (tx.frame.length + 2) 3)
    obtain ⟨j, rfl⟩ : ∃ j, b = tx.frame.length + 2 + j := ⟨b - (tx.frame.length + 2), by omega⟩
    exact endsAttempt_window h hq hlast

end

/-! ## The whole attempt -/

/-- The part carries an attempt with `n` REFCLK periods of it left. -/
def State.InAttempt (s : State) (l : LinkNo) (tx : Transaction) (attempt divider : Nat) (levels : List Bool)
    (n : Nat) : Prop :=
  ∃ b sub, sub ≤ divider ∧ b * (divider + 1) + sub + n = attemptBits tx levels * (divider + 1) ∧
    s.Carries l tx divider levels b (.inAttempt tx attempt levels b sub) ∧ s.Quiet l n

section
variable {s : State} {l : LinkNo} {tx : Transaction} {attempt divider n : Nat} {levels : List Bool}

theorem State.InAttempt.shows (h : s.InAttempt l tx attempt divider levels n) :
    (s.link l).inFlight = some tx ∧ (s.link l).line.Attempts ∧ (s.link l).line.attempt = attempt := by
  obtain ⟨b, sub, -, -, hcarries, -⟩ := h
  obtain ⟨-, hattempts, hnumber, -, -⟩ := inAttempt_frame tx attempt levels b sub
  rw [hcarries.line]
  exact ⟨hcarries.inFlight, hattempts, hnumber⟩

/-- A period that does not end the attempt. -/
theorem State.InAttempt.step (h : s.InAttempt l tx attempt divider levels (n + 2)) :
    ∃ v, step s = .next v ∧ v.InAttempt l tx attempt divider levels (n + 1) := by
  obtain ⟨b, sub, hsub, hleft, hcarries, hquiet⟩ := h
  obtain ⟨hrest, hattempts, -, htimer, hset⟩ := inAttempt_frame tx attempt levels b sub
  by_cases hend : sub = divider
  · subst hend
    have hgoes : b + 1 < attemptBits tx levels := by
      refine Nat.lt_of_mul_lt_mul_right (a := sub + 1) ?_
      rw [Nat.add_mul]
      omega
    obtain ⟨v, hstep, hnext, hquiet'⟩ := passesBit hcarries hquiet hgoes
    refine ⟨v, hstep, b + 1, 0, Nat.zero_le _, ?_, hnext, hquiet'⟩
    rw [Nat.add_mul]
    omega
  · obtain ⟨hdue, hnext⟩ := hcarries.within hrest hattempts (by rw [htimer]; omega)
    rw [htimer, hset] at hnext
    exact ⟨_, hquiet.step_of_not_due hcarries.pending hcarries.rstLow hdue, b, sub + 1, by omega, by omega, hnext,
      hquiet.advance⟩

/-- The last period of the attempt ends it. -/
theorem State.InAttempt.ends (h : s.InAttempt l tx attempt divider levels 1) : s.EndsAttempt l tx levels := by
  obtain ⟨b, sub, hsub, hleft, hcarries, hquiet⟩ := h
  have hlast : b + 1 = attemptBits tx levels := by
    have hmost : b * (divider + 1) < attemptBits tx levels * (divider + 1) := by omega
    have hfew : attemptBits tx levels * (divider + 1) < (b + 2) * (divider + 1) := by
      rw [Nat.add_mul]
      omega
    have h1 := Nat.lt_of_mul_lt_mul_right hmost
    have h2 := Nat.lt_of_mul_lt_mul_right hfew
    omega
  rw [← hlast, Nat.add_mul] at hleft
  obtain rfl : sub = divider := by omega
  exact endsAttempt hcarries hquiet hlast

theorem clock_of_step {v : State} (hq : s.pending = []) (h : step s = .next v) : s.clock = v :=
  Host.Outcome.next.inj ((step_of_empty s hq).symm.trans h)

theorem inAttempt_iterate (h : s.InAttempt l tx attempt divider levels n) {k m : Nat} (hk : k + (m + 1) = n) :
    (State.clock^[k] s).InAttempt l tx attempt divider levels (m + 1) := by
  induction k generalizing m with
  | zero =>
    rw [Nat.zero_add] at hk
    exact hk ▸ h
  | succ k ih =>
    have hbefore := ih (m := m + 1) (by omega)
    obtain ⟨v, hstep, hafter⟩ := hbefore.step
    obtain ⟨_, _, -, -, hcarries, -⟩ := hbefore
    rw [Function.iterate_succ_apply', clock_of_step hcarries.pending hstep]
    exact hafter

end

theorem attemptBits_pos (tx : Transaction) (levels : List Bool) : 0 < attemptBits tx levels := by
  have hframe := frame_length_eq tx
  obtain ⟨c, -, -, -, hbits⟩ | ⟨-, -, hbits⟩ | hgoes := attemptBits_cases tx levels
  · omega
  · rw [hbits, hframe]
    split <;> decide
  · omega

/-- Settles O60: the durations by number, and the run of the clock through the bit times of the attempt. -/
theorem attemptHoldsTheLine : Obligations.AttemptHoldsTheLine := by
  unfold Obligations.AttemptHoldsTheLine
  refine ⟨windowBits_of_code, fun r tx first h hlength hsent => attemptBits_of_reply h hlength hsent,
    fun tx sld hstation hsent => attemptBits_of_no_reply hstation hsent,
    fun tx sld hbroadcast hsent => attemptBits_of_broadcast hbroadcast hsent,
    fun tx sld i hi hreleased hlow hbefore => attemptBits_of_contended hi hreleased hlow hbefore, ?_⟩
  intro s l tx attempt hq hr hf hline periods hlinger hslots hlines hrequests
  have hlead : (s.link l).line = .inAttempt tx attempt s.sld[l] 0 0 := by
    rw [hline, inAttempt_request tx attempt s.sld[l] 0 (by rw [frame_length_eq]; split <;> decide)]
    rfl
  have hstart : s.InAttempt l tx attempt (s.link l).divider s.sld[l] periods :=
    ⟨0, 0, Nat.zero_le _, by omega, ⟨hq, hr, hf, rfl, hlead, rfl⟩, hlinger, hslots, hlines, hrequests⟩
  have hperiods : 0 < periods := Nat.mul_pos (attemptBits_pos tx s.sld[l]) (Nat.succ_pos _)
  obtain ⟨sld, hend, hattempting⟩ := (inAttempt_iterate (k := periods - 1) (m := 0) hstart (by omega)).ends
  refine ⟨fun k => State.clock^[k] s, _, sld, rfl, fun k hk => ?_, fun k hk => ?_, rfl, hend, hattempting⟩
  · obtain ⟨_, _, -, -, hcarries, -⟩ :=
      inAttempt_iterate (k := k) (m := periods - k - 1) hstart (by omega)
    rw [step_of_empty _ hcarries.pending, ← Function.iterate_succ_apply' State.clock k s]
  · exact (inAttempt_iterate (k := k) (m := periods - k - 1) hstart (by omega)).shows

end Sys2Proof.Machine
end
